-- ==== Sys2Proof/Word.lean ====
section
/-!
DEFINITION. The two word types of the YMODEM sender core: the byte and the unsigned 16-bit value
(spec/00_scope.md R11). Nothing in the core is signed.
-/

namespace Sys2Proof

/-- An unsigned 8-bit value (R11). -/
abbrev Byte := BitVec 8

/-- `u16`, an unsigned 16-bit value (R11). -/
abbrev U16 := BitVec 16

end Sys2Proof
end

