-- ==== Sys2Proof/Config.lean ====
section
/-!
DEFINITION. What an implementation of the core fixes: the constants of spec/00_scope.md R8, the names of
the control bytes (R17), and the build-time parameters of R9 with the spec's default for each.
-/

namespace Sys2Proof

namespace Config

/-- `BS_HDR`: payload bytes of a header packet (R8). -/
def bsHdr : Nat := 128

/-- `BS_DATA`: payload bytes of a data packet (R8). -/
def bsData : Nat := 1024

/-- `POLY`: the CRC generator polynomial (R8). -/
def poly : U16 := 0x1021#16

/-- `CRC_INIT`: the default initial value of the CRC (R8). -/
def crcInitial : U16 := 0x0000#16

/-- `READ_MAX`: most bytes one file read asks for (R8). -/
def readMax : Nat := 1024

/-- `SOH`, the mark of a 128-byte packet (R17). -/
def soh : Byte := 0x01#8

/-- `STX`, the mark of a 1024-byte packet (R17). -/
def stx : Byte := 0x02#8

/-- `EOT`, end of transfer (R17). -/
def eot : Byte := 0x04#8

/-- `ACK` (R17). -/
def ack : Byte := 0x06#8

/-- `NAK` (R17). -/
def nak : Byte := 0x15#8

/-- `CA`, cancel (R17). -/
def ca : Byte := 0x18#8

end Config

/-- Which acknowledged packets may be followed by one discarded extra byte (R9, D8). -/
inductive ExtraAckGate where
  | seqZero
  | firstPacketOnly
  deriving DecidableEq, Repr

/-- The build-time parameters of R9. No operation writes them (spec/10_state.md R45). -/
structure Params where
  /-- `PAD_BYTE` -/
  padByte : Byte
  /-- `LOGICAL_NAME` -/
  logicalName : List Byte
  /-- `SIZE_BITS` -/
  sizeBits : Nat
  /-- `EXTRA_ACK_GATE` -/
  extraAckGate : ExtraAckGate
  /-- `MAX_RETRIES` -/
  maxRetries : Nat
  /-- `TIMEOUT_ENABLED` -/
  timeoutEnabled : Bool
  deriving DecidableEq, Repr

/-- The default of every parameter (R9): the pad byte 0x1A, the ASCII name `firmware`, 32 size bits, the gate
`SeqZero`, no retries, no timeout. -/
def Params.default : Params where
  padByte := 0x1A#8
  logicalName := [0x66#8, 0x69#8, 0x72#8, 0x6D#8, 0x77#8, 0x61#8, 0x72#8, 0x65#8]
  sizeBits := 32
  extraAckGate := .seqZero
  maxRetries := 0
  timeoutEnabled := false

end Sys2Proof
end

