-- ==== Sys2Proof/Syntax.lean ====
section
/-!
DEFINITION. The instructions: one constructor for each row of spec/opcode_table.json (spec/30_encoding.md
R99). A transmitted form has no operand, because every field of it is assembled from core state and parameters,
never from an instruction word (R97); the fields it shows on the wire are `WireFields`.
-/

namespace Sys2Proof

/-- The rows of the opcode table (R99). -/
inductive Instr where
  /-- `PKT128_HDR`: the opening header packet (R204). -/
  | pkt128Hdr
  /-- `PKT1024_DATA`: a data packet (R207). -/
  | pkt1024Data
  /-- `EOT`: the unframed end-of-transfer byte (R209). -/
  | eot
  /-- `PKT128_FIN`: the closing empty header packet (R211). -/
  | pkt128Fin
  /-- `RX_ACK`: a response 0x06 (R175). -/
  | rxAck
  /-- `RX_CA`: a response 0x18 (R178). -/
  | rxCa
  /-- `RX_NAK`: a response 0x15 (R180). -/
  | rxNak
  /-- `RX_OTHER`: any other response byte `b` (R179). -/
  | rxOther (b : Byte)
  /-- `RX_CA2_ANY`: the byte read after a `CA`, not decoded (R93, R178). -/
  | rxCa2Any (b : Byte)
  /-- `RX_EXTRA_ANY`: what the one poll after a gated `ACK` gives, a byte or nothing, not decoded (R94, R176). -/
  | rxExtraAny (o : Option Byte)
  /-- `HOST_START`: the host's command to begin a session (R96, R201). -/
  | hostStart
  deriving DecidableEq, Repr

/-- The fields of a transmitted packet that are not determined by its form: the sequence number and the payload.
The mark, the inverse and the CRC follow from them (R81). -/
structure WireFields where
  seq : Byte
  payload : List Byte
  deriving DecidableEq, Repr

end Sys2Proof
end

