-- ==== Sys2Proof/WellFormed.lean ====
section
/-!
DEFINITION. Well-formed instructions, well-formed wire fields of a transmitted form, and well-formed parameter
sets (spec/30_encoding.md R81 to R94, spec/00_scope.md R10).
-/

namespace Sys2Proof

/-- `RX_OTHER` stands for a byte that no other response class matches (R92); every other instruction is well
formed as it is. -/
def Instr.wellFormed : Instr → Bool
  | .rxOther b => b != Config.ack && b != Config.ca && b != Config.nak
  | .pkt128Hdr => true
  | .pkt1024Data => true
  | .eot => true
  | .pkt128Fin => true
  | .rxAck => true
  | .rxCa => true
  | .rxNak => true
  | .rxCa2Any _ => true
  | .rxExtraAny _ => true
  | .hostStart => true

/-- The wire fields a form admits: both headers carry seq 0 and 128 payload bytes, the opening header's first
payload byte is not 0 and the closing header's is (R86, R88, R91); a data packet carries 1024 payload bytes (R89);
the other forms have no such field. -/
def WireFields.wellFormed (f : WireFields) : Instr → Bool
  | .pkt128Hdr => f.seq == 0#8 && f.payload.length == Config.bsHdr && f.payload.head? != some 0#8
  | .pkt128Fin => f.seq == 0#8 && f.payload.length == Config.bsHdr && f.payload.head? == some 0#8
  | .pkt1024Data => f.payload.length == Config.bsData
  | .eot => f.seq == 0#8 && f.payload.isEmpty
  | .rxAck => f.seq == 0#8 && f.payload.isEmpty
  | .rxCa => f.seq == 0#8 && f.payload.isEmpty
  | .rxNak => f.seq == 0#8 && f.payload.isEmpty
  | .rxOther _ => f.seq == 0#8 && f.payload.isEmpty
  | .rxCa2Any _ => f.seq == 0#8 && f.payload.isEmpty
  | .rxExtraAny _ => f.seq == 0#8 && f.payload.isEmpty
  | .hostStart => f.seq == 0#8 && f.payload.isEmpty

/-- The longest well-formed `LOGICAL_NAME` (R10). -/
def Config.maxNameLength : Nat := 116

/-- A well-formed parameter set (R10). -/
def Params.wellFormed (p : Params) : Bool :=
  !p.logicalName.isEmpty && !p.logicalName.contains 0#8
    && decide (p.logicalName.length ≤ Config.maxNameLength) && decide (p.sizeBits ≤ 32)

end Sys2Proof
end

