-- ==== Sys2Proof/Decode.lean ====
section
/-!
DEFINITION. Decoding and encoding (spec/30_encoding.md). A transmitted unit is identified by its first bytes (R85,
R91, R99); a received byte is decoded by when it is read (R92 to R94, R99); the host command is one bit (R96).
Decoding is total and rejects by name. The encoder and the strict packet reader follow the decoder.
-/

namespace Sys2Proof

/-- When bytes are read decides how they are decoded (R99). -/
inductive ReadPoint where
  /-- a unit the core transmits -/
  | transmit
  /-- the first byte read after a unit, in `HS_WAIT` -/
  | response
  /-- the byte read after a `CA`, in `HS_CA2` -/
  | cancelSecond
  /-- the poll after a gated `ACK`, in `HS_PROBE`: one byte or none -/
  | extra
  /-- the one-bit command input -/
  | hostCommand
  deriving DecidableEq, Repr

/-- Why bytes are no instruction. -/
inductive DecodeError where
  /-- no byte where one is needed -/
  | empty
  /-- fewer bytes than the first byte announces (R85) -/
  | truncated
  /-- more bytes than the first byte announces (R85) -/
  | tooLong
  /-- a first byte the core never sends (R80, R95) -/
  | notTransmitted
  /-- byte 2 is not the inverse of byte 1 (R83) -/
  | badInverse
  /-- the last two bytes are not the CRC of the payload (R84) -/
  | badCrc
  /-- a header packet whose seq is not 0 (R86, R88) -/
  | badHeaderSeq
  /-- the command input is not 1 (R96) -/
  | noCommand
  deriving DecidableEq, Repr

/-- The length of a transmitted unit, told by its first byte alone (R85). -/
def unitLength (first : Byte) : Option Nat :=
  if first = Config.soh then some (Config.bsHdr + 5)
  else if first = Config.stx then some (Config.bsData + 5)
  else if first = Config.eot then some 1
  else none

/-- Which transmitted form begins with `first` and has `third` at offset 3 (R91). -/
def transmittedForm (first third : Byte) : Except DecodeError Instr :=
  if first = Config.eot then .ok .eot
  else if first = Config.stx then .ok .pkt1024Data
  else if first = Config.soh then .ok (if third = 0#8 then .pkt128Fin else .pkt128Hdr)
  else .error .notTransmitted

/-- The class of a response byte, in the priority order of R92: `ACK`, `CA`, `NAK`, any other. -/
def decodeResponse (b : Byte) : Instr :=
  if b = Config.ack then .rxAck
  else if b = Config.ca then .rxCa
  else if b = Config.nak then .rxNak
  else .rxOther b

/-- Identify a transmitted unit by its first bytes (R85, R91, R99). -/
def decodeTransmit : List Byte → Except DecodeError Instr
  | [] => .error .empty
  | b :: rest =>
    match unitLength b with
    | none => .error .notTransmitted
    | some n => if rest.length + 1 < n then .error .truncated else transmittedForm b (rest.getD 2 0#8)

/-- The instruction that bytes read at a point stand for (R99). Bytes after the instruction's own are left to
whoever reads next. -/
def decode : ReadPoint → List Byte → Except DecodeError Instr
  | .transmit, bytes => decodeTransmit bytes
  | .response, [] => .error .empty
  | .response, b :: _ => .ok (decodeResponse b)
  | .cancelSecond, [] => .error .empty
  | .cancelSecond, b :: _ => .ok (.rxCa2Any b)
  | .extra, [] => .ok (.rxExtraAny none)
  | .extra, b :: _ => .ok (.rxExtraAny (some b))
  | .hostCommand, [] => .error .empty
  | .hostCommand, b :: _ => if b.getLsbD 0 then .ok .hostStart else .error .noCommand

/-! ### The encoder -/

/-- `SEQ_ENCODE`: the sequence pair `seq`, `0xFF - seq` (R83, R142). -/
def seqEncode (seq : Byte) : List Byte := [seq, 0xFF#8 - seq]

/-- A whole packet as one byte string (R81). -/
def packetBytes (mark seq : Byte) (payload : List Byte) (crc : U16) : List Byte :=
  [mark] ++ seqEncode seq ++ payload ++ Machine.crcField crc

/-- A packet with the CRC of its own payload (R81, R84). -/
def encodePacket (mark : Byte) (f : WireFields) : List Byte :=
  packetBytes mark f.seq f.payload (Machine.crc16 f.payload Config.crcInitial)

/-- The bytes of an instruction; `f` gives a packet's fields and is not read by the other forms (R80 to R96). -/
def encode (f : WireFields) : Instr → List Byte
  | .pkt128Hdr => encodePacket Config.soh f
  | .pkt1024Data => encodePacket Config.stx f
  | .eot => [Config.eot]
  | .pkt128Fin => encodePacket Config.soh f
  | .rxAck => [Config.ack]
  | .rxCa => [Config.ca]
  | .rxNak => [Config.nak]
  | .rxOther b => [b]
  | .rxCa2Any b => [b]
  | .rxExtraAny o => o.toList
  | .hostStart => [0x01#8]

/-- When an instruction's bytes are read (R99). -/
def Instr.readPoint : Instr → ReadPoint
  | .pkt128Hdr => .transmit
  | .pkt1024Data => .transmit
  | .eot => .transmit
  | .pkt128Fin => .transmit
  | .rxAck => .response
  | .rxCa => .response
  | .rxNak => .response
  | .rxOther _ => .response
  | .rxCa2Any _ => .cancelSecond
  | .rxExtraAny _ => .extra
  | .hostStart => .hostCommand

/-! ### The strict reader of a transmitted unit -/

/-- Read a packet's fields back out of its bytes, checking length, inverse, CRC and a header's seq
(R81, R83, R84, R86, R88; the round trip of spec/95_test_vectors.md W6). -/
def parsePacket (bs : Nat) (bytes : List Byte) : Except DecodeError WireFields :=
  if bytes.length < bs + 5 then .error .truncated
  else if bs + 5 < bytes.length then .error .tooLong
  else
    let seq := bytes.getD 1 0#8
    let payload := (bytes.drop 3).take bs
    if bytes.getD 2 0#8 ≠ 0xFF#8 - seq then .error .badInverse
    else if bytes.drop (3 + bs) ≠ Machine.crcField (Machine.crc16 payload Config.crcInitial) then .error .badCrc
    else if bs = Config.bsHdr ∧ seq ≠ 0#8 then .error .badHeaderSeq
    else .ok ⟨seq, payload⟩

/-- Read a whole transmitted unit: its form and its fields. -/
def parseUnit (bytes : List Byte) : Except DecodeError (Instr × WireFields) :=
  match decodeTransmit bytes with
  | .error e => .error e
  | .ok .eot => if bytes.length = 1 then .ok (.eot, ⟨0#8, []⟩) else .error .tooLong
  | .ok .pkt1024Data => (parsePacket Config.bsData bytes).map fun f => (.pkt1024Data, f)
  | .ok i => (parsePacket Config.bsHdr bytes).map fun f => (i, f)

/-- The decimal digits at the front of `s`, read most significant first onto `acc`, up to the first byte that is no
digit (R87). -/
def readDecimal : List Byte → Nat → Nat
  | [], acc => acc
  | b :: s, acc => if 0x30#8 ≤ b ∧ b ≤ 0x39#8 then readDecimal s (10 * acc + (b - 0x30#8).toNat) else acc

/-- Read the name and the size back out of a header payload: the bytes before the first NUL, then the digits after
it (R86; spec/95_test_vectors.md W6). -/
def readHeader (payload : List Byte) : List Byte × Nat :=
  (payload.takeWhile (· != 0#8), readDecimal ((payload.dropWhile (· != 0#8)).drop 1) 0)

/-! ### The opcode table's words -/

/-- Byte `k` of the word `w`. -/
def byteOfWord (w k : Nat) : Byte := BitVec.ofNat 8 (w >>> (8 * k))

/-- The longest instruction in bytes: a data packet (R80). -/
def longestUnit : Nat := Config.bsData + 5

/-- The bytes of an instruction whose bits are `w`: as many as `nbits` makes, then zeros up to the longest
instruction. -/
def bytesOfWord (nbits w : Nat) : List Byte :=
  let n := (nbits + 7) / 8
  (List.range n).map (byteOfWord w) ++ List.replicate (longestUnit - n) 0#8

/-- The instruction the decoder reads from a word of the opcode table. The table's rows do not say on which
interface a word stands: fewer than eight bits are the command input; a byte that begins a transmitted form is that
form; any other byte is a response. -/
def decodeTableWord (nbits w : Nat) : Option Instr :=
  if nbits < 8 then (decode .hostCommand [byteOfWord w 0]).toOption
  else
    match decode .transmit (bytesOfWord nbits w) with
    | .ok i => some i
    | .error _ => (decode .response (bytesOfWord nbits w)).toOption

end Sys2Proof
end

