-- ==== Sys2Proof/Machine/State.lean ====
section
/-!
DEFINITION. The state of the core and of the environment it talks to, as plain data (spec/10_state.md), the reasons
a step can stop, and the machine right after reset (spec/70_reset_and_hazards.md R270).
-/

namespace Sys2Proof.Machine

/-! ### Registers with named codes -/

/-- `PHASE`, the transfer sequencer's state, in the order of its codes 0 to 7 (R30). -/
inductive Phase where
  | start
  | headerSent
  | dataLoop
  | eotSent
  | finSent
  | closed
  | aborted
  /-- code 7, never written; a model that finds it faults (R30) -/
  | reserved7
  deriving DecidableEq, Repr

/-- `HS`, the handshake unit's state, in the order of its codes 0 to 7 (R31). -/
inductive Hs where
  | idle
  | tx
  | wait
  | ca2
  | probe
  /-- code 5, never written; a model that finds it faults (R31) -/
  | reserved5
  /-- code 6, never written; a model that finds it faults (R31) -/
  | reserved6
  /-- code 7, never written; a model that finds it faults (R31) -/
  | reserved7
  deriving DecidableEq, Repr

/-- `KIND`, what the handshake unit is sending, in the order of its codes 0 to 3 (R34). -/
inductive Kind where
  | hdr
  | data
  | eot
  | fin
  deriving DecidableEq, Repr

/-- `STATUS`, the final status, in the order of its codes 0 to 7 (R40). -/
inductive Status where
  | none
  | success
  | cancelled
  | framingError
  | unexpectedResponse
  | channelOrFileError
  | timeout
  /-- code 7, never written; a model that finds it faults (spec/93_implementation_defined.md X3) -/
  | reserved7
  deriving DecidableEq, Repr

/-- The result type of the handshake unit (R174). -/
inductive Resp where
  | ack
  | cancel
  | other (b : Byte)
  deriving DecidableEq, Repr

/-- The internal operation that is the core's next step, with the values its pseudocode holds (`chunk` of R206, `resp`
of R204 to R211). R21 makes an internal operation a step of its own; this is the place between two steps inside one
operation of the sequencer. It is the MODEL's own, not the spec's (DEDUCED, log entry 3). -/
inductive Todo where
  /-- the control point of R29 alone says what is next -/
  | none
  /-- `HDR_SEND`'s own assignments and `SELECT_FRAMING(0)`, after `FileSize` was answered (R203, R204) -/
  | hdrSend
  /-- `HDR_ENCODE(LOGICAL_NAME, FSIZE)` (R204) -/
  | hdrEncode
  /-- `DATA_SEND(chunk)`: `LOAD_PAYLOAD(chunk)`, after `FileRead` returned `chunk` (R206, R207) -/
  | dataSend (chunk : List Byte)
  /-- `EOT_SEND`: `EOT_ENCODE`, after `FileRead` returned 0 bytes (R206, R209) -/
  | eotSend
  /-- `FIN_ENCODE` (R211) -/
  | finEncode
  /-- `PAD` (R204, R207, R211) -/
  | pad
  /-- `BUILD_PACKET` (R204, R207, R211) -/
  | buildPacket
  /-- `HANDSHAKE` returned `r`: `HDR_RESP(r)`, `DATA_RESP(r)`, `EOT_RESP(r)` or `FIN_RESP(r)`, by `PHASE` (R174) -/
  | resp (r : Resp)
  deriving DecidableEq, Repr

/-! ### Memory -/

/-- `PBUF` as (index, byte) pairs, indices strictly rising and below 1024 (R36, spec/20_memory.md R60). An unlisted
byte holds no value (R49). -/
abbrev Memory := List Host.Cell

/-! ### The environment: the draws the spec leaves to it, and the moves of the other agents -/

/-- What the channel answers to one `TxWrite` (R23, R26). -/
inductive TxDraw where
  | accept
  | err
  /-- held back for now; the core waits (R23) -/
  | hold
  /-- held back for ever (R253) -/
  | never
  deriving DecidableEq, Repr

/-- What one `RxRead` gets where it could get several things (R24, R26, R27, R249). -/
inductive RxDraw where
  /-- the oldest byte of the RX queue, waiting while there is none -/
  | byte
  | err
  /-- only with `TIMEOUT_ENABLED`; otherwise there is no timeout and this is `byte` (R27) -/
  | timeout
  deriving DecidableEq, Repr

/-- The presence draw of one `RxPoll` (R46), or its failure (R26). -/
inductive PollDraw where
  | present
  | absent
  | err
  deriving DecidableEq, Repr

/-- What the file source answers to one `FileSize` (R25, R26, R253). -/
inductive SizeDraw where
  | answer
  | err
  | hold
  | never
  deriving DecidableEq, Repr

/-- What the file source answers to one `FileRead` (spec/20_memory.md R63, R26, R253). -/
inductive ReadDraw where
  /-- a regular file: the next 1024 bytes, or what remains -/
  | regular
  /-- one byte and the `more` bytes after it, or what remains: a short read, or more than 1024 bytes from a source that
  breaks R63; 0 bytes only where none remain -/
  | give (more : Nat)
  | err
  | hold
  | never
  deriving DecidableEq, Repr

/-- The file source (R25, R47). `size` is what `FileSize` answers; it need not be `data.length` (R280). -/
structure FileSource where
  size : Nat
  data : List Byte
  cursor : Nat
  isOpen : Bool
  deriving DecidableEq, Repr

/-- One move of the schedule: which agent acts next, and how (R20). -/
inductive Move where
  /-- the core makes its next step -/
  | core
  /-- the host issues `HostStart` (R22) -/
  | hostStart
  /-- the host resets the core (R270, R271) -/
  | reset
  /-- the receiver sends a byte, which joins the RX queue (R24) -/
  | receiver (b : Byte)
  /-- the host does its duties of R272: channel ready, CRC mode requested, RX queue drained, file open at offset 0 -/
  | handOver (size : Nat) (data : List Byte)
  /-- the host reads every byte of the RX queue (R272 item 3) -/
  | drain
  deriving DecidableEq, Repr

/-- The environment of the core: what R46 to R48 name of it, and its coming behaviour as plain data. An exhausted
list of draws stands for normal answers, an exhausted schedule for the core's moves only. -/
structure Env where
  /-- the RX queue, oldest byte first (R24) -/
  rxQueue : List Byte
  /-- the bytes the core has consumed from the RX queue, in order (R48), since the first session: no move clears it
  (DESIGN CHOICE, log entry 15) -/
  rxTaken : List Byte
  /-- the bytes the core has written on the channel, in order (R23, R48), since the first session: no move clears it
  (DESIGN CHOICE, log entry 15) -/
  wire : List Byte
  /-- the file source (R25) -/
  file : FileSource
  /-- how many `FileRead` transactions were made (R48), since the first session: no move clears it (DESIGN CHOICE, log
  entry 15); one that answers `err` counts (log entry 12) -/
  fileReads : Nat
  /-- the launch premise `ChannelReady` (R272 item 1) -/
  channelReady : Bool
  /-- the launch premise `CrcModeRequested` (R272 item 2) -/
  crcModeRequested : Bool
  /-- false: the launch premise `RxQueueEmpty` is in force (R272 item 3, spec/93_implementation_defined.md O3). True: a
  launch with bytes in the RX queue runs, as R276 and vector V-E6 say. The MODEL's own: the spec says both (DESIGN
  CHOICE, log entry 8); no step writes it -/
  staleRxAdmitted : Bool
  /-- the coming moves of the agents -/
  sched : List Move
  txDraws : List TxDraw
  rxDraws : List RxDraw
  pollDraws : List PollDraw
  sizeDraws : List SizeDraw
  readDraws : List ReadDraw
  deriving DecidableEq, Repr

/-! ### The state -/

/-- The registers of the core (R28: it has no others), the internal operation that is next, the parameters and the
environment. -/
structure State where
  /-- `PHASE` (R30) -/
  phase : Phase
  /-- `HS` (R31) -/
  hs : Hs
  /-- `TXIDX` (R37) -/
  txidx : BitVec 11
  /-- `SEQ` (R32) -/
  seq : Byte
  /-- `BSEL` (R33): false is 0, 128-byte framing -/
  bsel : Bool
  /-- `KIND` (R34) -/
  kind : Kind
  /-- `CRC` (R35) -/
  crc : U16
  /-- `PBUF` (R36) -/
  pbuf : Memory
  /-- `PLEN` (R36) -/
  plen : BitVec 11
  /-- `PKTLEN` (R37) -/
  pktlen : BitVec 11
  /-- `FSIZE` (R38), `SIZE_BITS` bits -/
  fsize : Nat
  /-- `RETRY` (R39), wide enough for `MAX_RETRIES` -/
  retry : Nat
  /-- `STATUS` (R40) -/
  status : Status
  /-- `LAST_RESP` (R41) -/
  lastResp : Byte
  /-- `LAST_RESP_VALID` (R41) -/
  lastRespValid : Bool
  /-- `FCLOSED` (R43) -/
  fclosed : Bool
  /-- the internal operation that is next, if one is: the MODEL's own field (log entry 3) -/
  todo : Todo
  /-- the build-time parameters, which no operation writes (R45) -/
  params : Params
  /-- the receiver, the file source and the host (R20, R46, R47) -/
  env : Env
  deriving DecidableEq, Repr

/-! ### Why a step stops -/

/-- The model's faults (spec/60_exceptions.md R241). Each is safe: the model stops where the spec gives no value and
no effect. -/
inductive Fault where
  /-- Raised by every step and instruction that finds `PHASE` = 7 (R30). Safe. -/
  | reservedPhase
  /-- Raised by every step and instruction that finds `HS` = 5, 6 or 7 (R31). Safe. -/
  | reservedHs
  /-- Raised by every step and instruction that finds `STATUS` = 7 (spec/93_implementation_defined.md X3). Safe. -/
  | reservedStatus
  /-- Raised by a read of a `PBUF` byte that holds no value (R49, spec/93_implementation_defined.md U2). Safe. -/
  | noValue
  /-- Raised by a read of a `PBUF` byte at or above the current block size (R36, U2). Safe. -/
  | beyondBlock
  /-- Raised by `PacketByte(i)` for an `i` the unit does not have, which is never asked (R149). Safe. -/
  | noPacketByte
  deriving DecidableEq, Repr

/-- Why the model has no meaning for a step. Each is safe: the model stops where the spec says nothing. -/
inductive Refusal where
  /-- Raised by `exec` for an instruction that has no meaning in this model. Safe. -/
  | notModelled (mnemonic : String)
  /-- Raised by an instruction offered where the core is not at its control point, which no step does (R21, R29).
  Safe. -/
  | notAtControlPoint
  /-- Raised by `HOST_START` for a parameter set that is not well formed (spec/00_scope.md R10). Safe. -/
  | illFormedParams
  /-- Raised by `HOST_START` where `ChannelReady`, `CrcModeRequested`, `RxQueueEmpty` or `FileAtZero` is broken
  (R272, spec/93_implementation_defined.md O3). Safe. -/
  | launchPremiseBroken
  /-- Raised by `SIZE_PROBE` for a file longer than `2^SIZE_BITS - 1` bytes (spec/93_implementation_defined.md I9).
  Safe. -/
  | fileTooLong
  /-- Raised by a host move that uses the channel or the file while `BUSY` = 1
  (spec/93_implementation_defined.md O2). Safe. -/
  | hostBreaksOwnership
  deriving DecidableEq, Repr

/-- What a step or an instruction answers. -/
abbrev Out := Host.Outcome State Fault Refusal

/-- How one operation of the core ends: it goes on, it raises an abort (R242), or the model stops. -/
inductive Flow where
  | go (s : State)
  | raise (st : Status) (s : State)
  | fault (f : Fault)
  | refuse (r : Refusal)

/-- What the core does next: run an instruction at a state, or a step that is no instruction of the table. -/
inductive Fetched where
  | run (i : Instr) (s : State)
  | own (o : Out)

/-! ### Reset -/

/-- An empty file, open at offset 0. -/
def FileSource.empty : FileSource := { size := 0, data := [], cursor := 0, isOpen := true }

/-- The environment as `State.reset` has it: the launch premises of R272 hold and are in force, nothing was sent, the
file is empty and nothing is scheduled. DESIGN CHOICE, unsafe: the spec gives the environment no reset value (log entry 7). -/
def Env.initial : Env where
  rxQueue := []
  rxTaken := []
  wire := []
  file := FileSource.empty
  fileReads := 0
  channelReady := true
  crcModeRequested := true
  staleRxAdmitted := false
  sched := []
  txDraws := []
  rxDraws := []
  pollDraws := []
  sizeDraws := []
  readDraws := []

/-- The registers at their reset values, with given parameters and environment (R270). `CRC`, `PLEN`, `PKTLEN`,
`FSIZE` and `LAST_RESP` hold no value in the spec; 0 is a DESIGN CHOICE, unsafe (log entry 1). `PBUF` lists
nothing, so no byte of it holds a value (log entry 2). -/
def State.resetWith (p : Params) (e : Env) : State where
  phase := .start
  hs := .idle
  txidx := 0#11
  seq := 0#8
  bsel := false
  kind := .hdr
  crc := 0#16
  pbuf := []
  plen := 0#11
  pktlen := 0#11
  fsize := 0
  retry := 0
  status := .none
  lastResp := 0#8
  lastRespValid := false
  fclosed := false
  todo := .none
  params := p
  env := e

/-- The machine right after reset, with the default parameters (R9, R270). -/
def State.reset : State := State.resetWith Params.default Env.initial

end Sys2Proof.Machine
end

