-- ==== Sys2Proof/Machine/Flags.lean ====
section
/-!
DEFINITION. The core has no condition flags; what stands in their place: the codes of its coded registers
(spec/10_state.md R30, R31, R34, R40), the outputs the host reads (R22, R41, R42), and the check for reserved codes.
-/

namespace Sys2Proof.Machine

/-! ### Codes -/

/-- The 3-bit code of a `PHASE` (R30). -/
def Phase.code : Phase → BitVec 3
  | .start => 0#3
  | .headerSent => 1#3
  | .dataLoop => 2#3
  | .eotSent => 3#3
  | .finSent => 4#3
  | .closed => 5#3
  | .aborted => 6#3
  | .reserved7 => 7#3

/-- The 3-bit code of an `HS` (R31). -/
def Hs.code : Hs → BitVec 3
  | .idle => 0#3
  | .tx => 1#3
  | .wait => 2#3
  | .ca2 => 3#3
  | .probe => 4#3
  | .reserved5 => 5#3
  | .reserved6 => 6#3
  | .reserved7 => 7#3

/-- The 2-bit code of a `KIND` (R34). -/
def Kind.code : Kind → BitVec 2
  | .hdr => 0#2
  | .data => 1#2
  | .eot => 2#2
  | .fin => 3#2

/-- The 3-bit code of a `STATUS` (R40). -/
def Status.code : Status → BitVec 3
  | .none => 0#3
  | .success => 1#3
  | .cancelled => 2#3
  | .framingError => 3#3
  | .unexpectedResponse => 4#3
  | .channelOrFileError => 5#3
  | .timeout => 6#3
  | .reserved7 => 7#3

/-! ### Functions of `PHASE` -/

/-- The phases in which a session is running (R42). -/
def Phase.isBusy : Phase → Bool
  | .headerSent => true
  | .dataLoop => true
  | .eotSent => true
  | .finSent => true
  | .start => false
  | .closed => false
  | .aborted => false
  | .reserved7 => false

/-- The terminal phases (R16, R42). -/
def Phase.isTerminal : Phase → Bool
  | .closed => true
  | .aborted => true
  | .start => false
  | .headerSent => false
  | .dataLoop => false
  | .eotSent => false
  | .finSent => false
  | .reserved7 => false

/-- `BUSY` (R42). -/
def State.busy (s : State) : Bool := s.phase.isBusy

/-- `DONE` (R42). -/
def State.done (s : State) : Bool := s.phase.isTerminal

/-! ### Outputs -/

/-- What the host reads at any time (R22). -/
structure Outputs where
  busy : Bool
  done : Bool
  status : BitVec 3
  lastResp : Byte
  lastRespValid : Bool
  deriving DecidableEq, Repr

/-- The outputs of the core (R22, R40, R41, R42). -/
def outputs (s : State) : Outputs where
  busy := s.busy
  done := s.done
  status := s.status.code
  lastResp := s.lastResp
  lastRespValid := s.lastRespValid

/-! ### Reserved codes -/

/-- `HS` holds a reserved code (R31). -/
def Hs.isReserved : Hs → Bool
  | .reserved5 => true
  | .reserved6 => true
  | .reserved7 => true
  | .idle => false
  | .tx => false
  | .wait => false
  | .ca2 => false
  | .probe => false

/-- The fault of a state that holds a reserved code (R30, R31, R40; spec/93_implementation_defined.md X1 to X3). -/
def State.reservedCode (s : State) : Option Fault :=
  if s.phase = .reserved7 then some .reservedPhase
  else if s.hs.isReserved then some .reservedHs
  else if s.status = .reserved7 then some .reservedStatus
  else Option.none

end Sys2Proof.Machine
end

