-- ==== Sys2Proof/Machine/Ops.lean ====
section
/-!
DEFINITION. The operations every instruction is built from: the payload buffer's memory primitives
(spec/00_scope.md R13, spec/20_memory.md R61), the interface transactions (R14, spec/10_state.md R23 to R27), and the
two ways a session ends, `raise Abort` (spec/60_exceptions.md R242) and `finish` (spec/43_sequencer.md R216).
-/

namespace Sys2Proof.Machine

/-! ### The payload buffer -/

/-- The number of bytes of `PBUF` (R36, R60). -/
def pbufSize : Nat := 1024

/-- Indices strictly rise, from `lo` on, and stay below 1024. -/
def risingFrom : Nat → Memory → Bool
  | _, [] => true
  | lo, c :: m => decide (lo ≤ c.1) && decide (c.1 < pbufSize) && risingFrom (c.1 + 1) m

/-- The canonical form of `PBUF`: indices strictly rising and below 1024. -/
def Memory.wf (m : Memory) : Bool := risingFrom 0 m

/-- Byte `i` of `PBUF`; a byte nothing has written holds no value (R49, R61). -/
def memByte (m : Memory) (i : Nat) : Option Byte := (m.find? fun c => c.1 == i).map Prod.snd

/-- The cells of `bytes` at consecutive indices from `i`. -/
def cellsFrom : Nat → List Byte → Memory
  | _, [] => []
  | i, b :: bytes => (i, b) :: cellsFrom (i + 1) bytes

/-- `MemWrite(i, |bytes|, bytes)` (R13). -/
def memWrite (m : Memory) (i : Nat) (bytes : List Byte) : Memory :=
  (m.filter fun c => c.1 < i) ++ cellsFrom i bytes ++ m.filter fun c => i + bytes.length ≤ c.1

/-- `MemRead(i, n)` (R13): the `n` bytes from index `i`, if each holds a value. It walks the rising cells once. -/
def memRead : Memory → Nat → Nat → Option (List Byte)
  | _, _, 0 => some []
  | [], _, _ + 1 => none
  | c :: m, i, n + 1 =>
    if c.1 < i then memRead m i (n + 1)
    else if c.1 = i then (memRead m (i + 1) n).map (c.2 :: ·)
    else none

/-! ### The channel, transmit direction -/

/-- What the channel answers to the next `TxWrite` (R23). -/
def State.txAnswer (s : State) : TxDraw := s.env.txDraws.headD .accept

/-- The answer to a `TxWrite` was given. -/
def State.txAnswered (s : State) : State :=
  { s with env := { s.env with txDraws := s.env.txDraws.tail } }

/-- `TxWrite(b)` was accepted: `b` is the next byte on the wire (R23). -/
def State.txWritten (b : Byte) (s : State) : State :=
  { s with env := { s.env with txDraws := s.env.txDraws.tail, wire := s.env.wire ++ [b] } }

/-! ### The channel, receive direction -/

/-- What an `RxRead` answers (R14); `wait` is no step (R21). -/
inductive RxAnswer where
  | byte (b : Byte)
  | err
  | timeout
  | wait
  deriving DecidableEq, Repr

/-- The oldest byte of the RX queue, or a wait for one (R24). -/
def State.rxOldest (s : State) : RxAnswer :=
  match s.env.rxQueue with
  | [] => .wait
  | b :: _ => .byte b

/-- What the next `RxRead` answers (R24, R26); a timeout only with `TIMEOUT_ENABLED` (R27). -/
def State.rxAnswer (s : State) : RxAnswer :=
  match s.env.rxDraws.headD .byte with
  | .err => .err
  | .timeout => if s.params.timeoutEnabled then .timeout else s.rxOldest
  | .byte => s.rxOldest

/-- The answer to an `RxRead` was `err` or `timeout`: no byte leaves the queue (R26). -/
def State.rxFailed (s : State) : State :=
  { s with env := { s.env with rxDraws := s.env.rxDraws.tail } }

/-- An `RxRead` returned the byte `b`, which has left the RX queue (R24, R69). -/
def State.rxTook (b : Byte) (s : State) : State :=
  { s with env := { s.env with
      rxDraws := s.env.rxDraws.tail, rxQueue := s.env.rxQueue.tail, rxTaken := s.env.rxTaken ++ [b] } }

/-- What an `RxPoll` answers (R14): a byte, none, or a failure. -/
inductive PollAnswer where
  | got (o : Option Byte)
  | err
  deriving DecidableEq, Repr

/-- What the next `RxPoll` answers (R24): with the presence draw false the byte stays in the queue (R46). -/
def State.pollAnswer (s : State) : PollAnswer :=
  match s.env.pollDraws.headD .present with
  | .present => .got s.env.rxQueue.head?
  | .absent => .got none
  | .err => .err

/-- The answer to an `RxPoll` was `err`: no byte leaves the queue (R26). -/
def State.pollFailed (s : State) : State :=
  { s with env := { s.env with pollDraws := s.env.pollDraws.tail } }

/-- An `RxPoll` returned `o`: a byte has left the RX queue, or nothing has (R24). -/
def State.pollTook (o : Option Byte) (s : State) : State :=
  match o with
  | none => s.pollFailed
  | some b =>
    { s with env := { s.env with
        pollDraws := s.env.pollDraws.tail, rxQueue := s.env.rxQueue.tail, rxTaken := s.env.rxTaken ++ [b] } }

/-! ### The file source -/

/-- What the file source answers to the next `FileSize` (R25). -/
def State.sizeAnswer (s : State) : SizeDraw := s.env.sizeDraws.headD .answer

/-- The answer to a `FileSize` was given; the cursor has not moved (R62). -/
def State.sizeAnswered (s : State) : State :=
  { s with env := { s.env with sizeDraws := s.env.sizeDraws.tail } }

/-- What a `FileRead(1024)` answers (R14, R63); `hold` and `never` are no step of the core (R253). -/
inductive ReadAnswer where
  | chunk (bytes : List Byte)
  | err
  | hold
  | never
  deriving DecidableEq, Repr

/-- The bytes of the file from its cursor on. -/
def FileSource.rest (f : FileSource) : List Byte := f.data.drop f.cursor

/-- What the file source answers to the next `FileRead(1024)`: the next bytes from the cursor, and none of them only
where the cursor is at the end of the file (R25, R63). -/
def State.readAnswer (s : State) : ReadAnswer :=
  match s.env.readDraws.headD .regular with
  | .regular => .chunk (s.env.file.rest.take Config.readMax)
  | .give more => .chunk (s.env.file.rest.take (more + 1))
  | .err => .err
  | .hold => .hold
  | .never => .never

/-- A `FileRead` is held back for now (R253). -/
def State.readHeld (s : State) : State :=
  { s with env := { s.env with readDraws := s.env.readDraws.tail } }

/-- A `FileRead` answered `err`: the cursor has not moved (R26). -/
def State.readFailed (s : State) : State :=
  { s with env := { s.env with readDraws := s.env.readDraws.tail, fileReads := s.env.fileReads + 1 } }

/-- A `FileRead` returned `n` bytes: the cursor has moved past them (R25, R62). -/
def State.readTook (n : Nat) (s : State) : State :=
  { s with env := { s.env with
      readDraws := s.env.readDraws.tail
      fileReads := s.env.fileReads + 1
      file := { s.env.file with cursor := s.env.file.cursor + n } } }

/-- `CLOSE`: `FileClose()` once, then `FCLOSED <- 1` (R213). -/
def State.closeFile (s : State) : State :=
  if s.fclosed then s
  else { s with fclosed := true, env := { s.env with file := { s.env.file with isOpen := false } } }

/-! ### The ends of a session -/

/-- `raise Abort(st)`, the only way into `ABORTED` (R242): it runs at the step that detects the cause, `CLOSE`
included. There is no return from it (R252). -/
def raiseAbort (st : Status) (s : State) : State :=
  { { s with hs := .idle, todo := .none }.closeFile with status := st, phase := .aborted }

/-- `finish(st)` (R216). Its `FileClose` is the one transaction of the step that runs it (R21). -/
def finish (st : Status) (s : State) : State :=
  { s.closeFile with status := st, hs := .idle, phase := .closed }

/-- Go on with `k` where an operation goes on; an abort, a fault or a refusal ends what follows. -/
def Flow.andThen (r : Flow) (k : State → Flow) : Flow :=
  match r with
  | .go s => k s
  | .raise st s => .raise st s
  | .fault f => .fault f
  | .refuse e => .refuse e

/-- After an operation that goes on, `t` is next (R21). -/
def Flow.thenTodo (r : Flow) (t : Todo) : Flow := r.andThen fun s => .go { s with todo := t }

/-- The outcome of an operation: an abort is a next state (R241, R242). -/
def Flow.out : Flow → Out
  | .go s => .next s
  | .raise st s => .next (raiseAbort st s)
  | .fault f => .fault f
  | .refuse e => .refused e

/-- Run `k` where no register holds a reserved code and the core is at the control point `c` (R29, R241). -/
def atControl (s : State) (c : Bool) (k : Out) : Out :=
  match s.reservedCode with
  | some f => .fault f
  | none => if c then k else .refused .notAtControlPoint

end Sys2Proof.Machine
end

