-- ==== Sys2Proof/Machine/Operands.lean ====
section
/-!
DEFINITION. How the fields of a transmitted unit are assembled from registers and parameters (spec/30_encoding.md
R86 to R90, R97; spec/41_framer.md R142, R145, R149).
-/

namespace Sys2Proof.Machine

/-! ### Framing -/

/-- `bs`: the block size `BSEL` selects (R141). -/
def State.blockSize (s : State) : Nat := if s.bsel then Config.bsData else Config.bsHdr

/-- The mark `BSEL` selects (R82, R141). -/
def State.mark (s : State) : Byte := if s.bsel then Config.stx else Config.soh

/-! ### Header fields -/

/-- The byte `0x30 + d` of a decimal digit (R87). -/
def digitByte (d : Nat) : Byte := 0x30#8 + BitVec.ofNat 8 d

/-- The digits of `n` in front of `acc`, at most `fuel` of them, most significant first. -/
def decDigits : Nat → Nat → List Byte → List Byte
  | 0, _, acc => acc
  | fuel + 1, n, acc => if n = 0 then acc else decDigits fuel (n / 10) (digitByte (n % 10) :: acc)

/-- `DEC_ENCODE(size)` (R87, R145). -/
def decEncode (size : Nat) : List Byte := if size = 0 then [0x30#8] else decDigits size size []

/-- `hdr(name, size)` (R86). -/
def headerFields (name : List Byte) (size : Nat) : List Byte := name ++ [0x00#8] ++ decEncode size ++ [0x20#8]

/-- A payload: source bytes filled up to the block size with the pad byte (R86, R89, R90). -/
def padded (padByte : Byte) (bs : Nat) (src : List Byte) : List Byte :=
  src ++ List.replicate (bs - src.length) padByte

/-! ### The bytes of the current unit -/

/-- Byte `i` of the current block: a byte that holds no value, or lies at or above the block size, is a fault
(R36, R49). -/
def State.payloadByte (s : State) (i : Nat) : Except Fault Byte :=
  if s.blockSize ≤ i then .error .beyondBlock
  else
    match memByte s.pbuf i with
    | some b => .ok b
    | none => .error .noValue

/-- `PacketByte(i)`: the byte at index `i` of the current transmit unit (R149). -/
def State.packetByte (s : State) (i : Nat) : Except Fault Byte :=
  if s.kind = .eot then .ok Config.eot
  else if i = 0 then .ok s.mark
  else if i = 1 then .ok s.seq
  else if i = 2 then .ok (0xFF#8 - s.seq)
  else if i < 3 + s.blockSize then s.payloadByte (i - 3)
  else if i = 3 + s.blockSize then .ok (hiByte s.crc)
  else if i = 4 + s.blockSize then .ok (loByte s.crc)
  else .error .noPacketByte

/-- The whole current unit as one byte string: the bytes `PacketByte` gives one by one (R81, R97). It is read by
statements, not by the machine. -/
def State.unitBytes (s : State) : Option (List Byte) :=
  if s.kind = .eot then some [Config.eot]
  else (memRead s.pbuf 0 s.blockSize).map fun payload => packetBytes s.mark s.seq payload s.crc

end Sys2Proof.Machine
end

