-- ==== Sys2Proof/Machine/Framer.lean ====
section
/-!
DEFINITION. The packet framer's operations (spec/41_framer.md) and the CRC engine's on the register `CRC`
(spec/40_crc.md R123 to R125). The framer never writes `SEQ` (R152); its one exception is `FRAMING_ERROR`.
-/

namespace Sys2Proof.Machine

/-- `CRC_INIT(initial)` (R123). -/
def crcInit (initial : U16) (s : State) : State := { s with crc := initial }

/-- `CRC_STEP(b)` (R124). -/
def crcStep (b : Byte) (s : State) : State := { s with crc := crcNext s.crc b }

/-- `CRC16(data, initial)`, which leaves the result in `CRC` (R125). -/
def runCrc16 (data : List Byte) (initial : U16) (s : State) : State := { s with crc := crc16 data initial }

/-- `SELECT_FRAMING(sel)` (R141). -/
def selectFraming (sel : Bool) (s : State) : State := { s with bsel := sel }

/-- `LOAD_PAYLOAD(src)`: the length is checked before `PBUF` is written (R143). -/
def loadPayload (src : List Byte) (s : State) : Flow :=
  if s.blockSize < src.length then .raise .framingError s
  else .go { s with pbuf := memWrite s.pbuf 0 src, plen := BitVec.ofNat 11 src.length }

/-- `PAD` (R144). -/
def pad (s : State) : State :=
  { s with pbuf :=
      memWrite s.pbuf s.plen.toNat (List.replicate (s.blockSize - s.plen.toNat) s.params.padByte) }

/-- `HDR_ENCODE(name, size)` (R146). -/
def hdrEncode (name : List Byte) (size : Nat) (s : State) : Flow := loadPayload (headerFields name size) s

/-- `FIN_ENCODE` (R147). -/
def finEncode (s : State) : Flow := loadPayload (headerFields [] 0) s

/-- `LENGTH_CHECK` (R150). -/
def lengthCheck (s : State) : Flow :=
  if s.kind ≠ .eot ∧ s.pktlen.toNat ≠ s.blockSize + 5 then .raise .framingError s else .go s

/-- `BUILD_PACKET`: the CRC of the padded payload and the packet's length (R148). -/
def buildPacket (s : State) : Flow :=
  match memRead s.pbuf 0 s.blockSize with
  | none => .fault .noValue
  | some payload =>
    lengthCheck { runCrc16 payload Config.crcInitial s with pktlen := BitVec.ofNat 11 (s.blockSize + 5) }

/-- `EOT_ENCODE` (R151). -/
def eotEncode (s : State) : State := { s with pktlen := 1#11 }

end Sys2Proof.Machine
end

