-- ==== Sys2Proof/Machine/Sequencer.lean ====
section
/-!
DEFINITION. The handshake unit's shared operations (spec/42_handshake.md R171, R177, R181, R183) and the transfer
sequencer's (spec/43_sequencer.md), from which the instructions of Transmit.lean and Receive.lean are built.
-/

namespace Sys2Proof.Machine

/-! ### SEND, GATE, ADVANCE -/

/-- The beginning of `SEND(first)` (R171): the unit's first byte is next. -/
def beginSend (first : Bool) (s : State) : State :=
  { s with retry := if first then 0 else s.retry, txidx := 0#11, hs := .tx }

/-- After a byte was written `TXIDX` moves on; after the last one the core waits for the response (R171, R184). -/
def byteSent (s : State) : State :=
  let next := s.txidx + 1#11
  { s with txidx := next, hs := if next < s.pktlen then .tx else .wait }

/-- One turn of `SEND`'s loop: one `TxWrite` of `PacketByte(TXIDX)` (R171). A failed write puts no byte on the wire
and aborts (R26); a write held back is no step of the core (R23). -/
def sendByte (s : State) : Out :=
  if s.txidx < s.pktlen then
    match s.packetByte s.txidx.toNat with
    | .error f => .fault f
    | .ok b =>
      match s.txAnswer with
      | .accept => .next (byteSent (s.txWritten b))
      | .err => .next (raiseAbort .channelOrFileError s.txAnswered)
      | .hold => .next s.txAnswered
      | .never => .next s
  else .next { s with hs := .wait }

/-- `GATE()`: whether an `ACK` may be followed by the discarded extra byte (R177). -/
def State.gate (s : State) : Bool :=
  if s.kind = .eot then false
  else
    match s.params.extraAckGate with
    | .seqZero => s.seq == 0#8
    | .firstPacketOnly => s.kind == .hdr

/-- `ADVANCE` (R181). -/
def advance (s : State) : State := { s with seq := s.seq + 1#8 }

/-- `AWAIT` read the response `b` (R172, R183). -/
def awaited (b : Byte) (s : State) : State :=
  { s.rxTook b with lastResp := b, lastRespValid := true }

/-- `HANDSHAKE` returns `r` to the sequencer; `HS` is idle again, and the sequencer's operation on `r` is next
(R175, R178, R179). -/
def returned (r : Resp) (s : State) : State := { s with hs := .idle, todo := .resp r }

/-! ### The transactions of the file source -/

/-- `SIZE_PROBE` (R203); `HDR_SEND` is next. A file too long for `SIZE_BITS` is refused
(spec/93_implementation_defined.md I9). -/
def sizeProbe (s : State) : Flow :=
  match s.sizeAnswer with
  | .err => .raise .channelOrFileError s.sizeAnswered
  | .hold => .go s.sizeAnswered
  | .never => .go s
  | .answer =>
    if s.env.file.size < 2 ^ s.params.sizeBits then
      .go { s.sizeAnswered with fsize := s.env.file.size, todo := .hdrSend }
    else .refuse .fileTooLong

/-- `DATA_READ` (R206); `EOT_SEND` is next where no byte was read, `DATA_SEND(chunk)` where bytes were. -/
def dataRead (s : State) : Flow :=
  match s.readAnswer with
  | .err => .raise .channelOrFileError s.readFailed
  | .hold => .go s.readHeld
  | .never => .go s
  | .chunk bytes => .go { s.readTook bytes.length with todo := if bytes = [] then .eotSend else .dataSend bytes }

/-! ### Building and beginning to send a unit -/

/-- `HDR_SEND`'s own assignments and `SELECT_FRAMING(0)` (R204); `HDR_ENCODE` is next. -/
def hdrSend (s : State) : State :=
  { selectFraming false { s with seq := 0#8 } with kind := .hdr, todo := .hdrEncode }

/-- `DATA_SEND(chunk)`: its own assignment and `LOAD_PAYLOAD(chunk)` (R207); `PAD` is next. -/
def dataSend (chunk : List Byte) (s : State) : Flow :=
  (loadPayload chunk { s with kind := .data }).thenTodo .pad

/-- `EOT_SEND` up to its byte: its own assignments, `EOT_ENCODE`, and the beginning of `HANDSHAKE` (R209, R180). -/
def eotSend (s : State) : State :=
  { beginSend true (eotEncode { s with phase := .eotSent, kind := .eot }) with todo := .none }

/-- `FIN_SEND`'s own assignments and `SELECT_FRAMING(0)` (R211); `FIN_ENCODE` is next. -/
def finSend (s : State) : State :=
  { selectFraming false { s with phase := .finSent, seq := 0#8 } with kind := .fin, todo := .finEncode }

/-- `BUILD_PACKET` and the beginning of `HANDSHAKE`, after which the unit's first byte is next (R148, R180). -/
def buildAndSend (s : State) : Flow := (buildPacket s).andThen fun t => .go { beginSend true t with todo := .none }

/-! ### The responses -/

/-- `HDR_RESP(resp)` (R205). -/
def hdrResp (r : Resp) (s : State) : State :=
  match r with
  | .ack => { selectFraming true (advance s) with phase := .dataLoop }
  | .cancel => raiseAbort .cancelled s
  | .other _ => raiseAbort .unexpectedResponse s

/-- `DATA_RESP(resp)` (R208). -/
def dataResp (r : Resp) (s : State) : State :=
  match r with
  | .ack => advance s
  | .cancel => raiseAbort .cancelled s
  | .other _ => raiseAbort .unexpectedResponse s

/-- `EOT_RESP(resp)` (R210): after an `Ack`, `FIN_SEND` is the core's next step. -/
def eotResp (r : Resp) (s : State) : State :=
  match r with
  | .ack => s
  | .cancel => raiseAbort .cancelled s
  | .other _ => raiseAbort .unexpectedResponse s

/-- `FIN_RESP(resp)`: any response completes the transfer (R212): `finish(SUCCESS)` is the core's next step, because
its `FileClose` is a transaction of its own (spec/10_state.md R21, spec/00_scope.md R14; log entry 3). -/
def finResp (_r : Resp) (s : State) : State := s

/-- `finish(SUCCESS)`, the step that ends a session normally (R212, R216): `FileClose` is its transaction. -/
def sessionEnd (s : State) : Out := .next (finish .success s)

/-- The sequencer's operation on the response `r`, by the send it is in (R205, R208, R210, R212). It is a step of its
own, so an abort's `FileClose` is that step's one transaction (R21, R242). -/
def respond (r : Resp) (s : State) : State :=
  let s := { s with todo := .none }
  match s.phase with
  | .headerSent => hdrResp r s
  | .dataLoop => dataResp r s
  | .eotSent => eotResp r s
  | .finSent => finResp r s
  | .start => s
  | .closed => s
  | .aborted => s
  | .reserved7 => s

/-! ### One internal operation -/

/-- The internal operation that is next (R21). It makes no transaction but the `FileClose` of an abort (R242). -/
def runTodo (s : State) : Flow :=
  match s.todo with
  | .none => .go s
  | .hdrSend => .go (hdrSend s)
  | .hdrEncode => (hdrEncode s.params.logicalName s.fsize s).thenTodo .pad
  | .dataSend chunk => dataSend chunk s
  | .eotSend => .go (eotSend s)
  | .finEncode => (finEncode s).thenTodo .pad
  | .pad => .go { pad s with todo := .buildPacket }
  | .buildPacket => buildAndSend s
  | .resp r => .go (respond r s)

end Sys2Proof.Machine
end

