-- ==== Sys2Proof/Machine/Transmit.lean ====
section
/-!
DEFINITION. The four transmitted forms as instructions (spec/30_encoding.md R99; spec/43_sequencer.md R204, R207,
R209, R211). Each runs in several steps (spec/10_state.md R21): a transaction of the file source, where the form has
one; then one step for each internal operation that builds the unit; then one step for each byte (spec/42_handshake.md
R171, spec/20_memory.md R68).
-/

namespace Sys2Proof.Machine

/-- The core is at phase `p` and handshake state `h` (R29). -/
def State.isAt (s : State) (p : Phase) (h : Hs) : Bool := s.phase == p && s.hs == h

/-- `HANDSHAKE` has returned: the sequencer's operation on the response is next. -/
def Todo.isResp : Todo → Bool
  | .resp _ => true
  | .none => false
  | .hdrSend => false
  | .hdrEncode => false
  | .dataSend _ => false
  | .eotSend => false
  | .finEncode => false
  | .pad => false
  | .buildPacket => false

/-- In the data loop the `EOT` is next: no byte was read, or the next `FileRead` gives none (R206). -/
def State.eotNext (s : State) : Bool := s.todo == .eotSend || (s.todo == .none && s.readAnswer == .chunk [])

/-- The next step of a transmitted form whose first step is `first`: a byte of the unit that is on its way, the
internal operation that is next, or the first step. -/
def unitStep (first : State → Flow) (s : State) : Out :=
  if s.hs = .tx then sendByte s
  else if s.todo = .none then (first s).out
  else (runTodo s).out

/-- `PKT128_HDR`: `SIZE_PROBE` and `HDR_SEND` (R203, R204), then the packet's bytes. -/
def execPkt128Hdr (s : State) : Out :=
  atControl s ((s.isAt .headerSent .idle && !s.todo.isResp) || s.isAt .headerSent .tx) <| unitStep sizeProbe s

/-- `PKT1024_DATA`: `DATA_READ` with a chunk that is not empty and `DATA_SEND` (R206, R207), then the packet's
bytes. -/
def execPkt1024Data (s : State) : Out :=
  atControl s ((s.isAt .dataLoop .idle && !s.todo.isResp && !s.eotNext) || s.isAt .dataLoop .tx) <|
    unitStep dataRead s

/-- `EOT`: `DATA_READ` of 0 bytes and `EOT_SEND` (R206, R209), then the one byte. -/
def execEot (s : State) : Out :=
  atControl s ((s.isAt .dataLoop .idle && s.eotNext) || s.isAt .eotSent .tx) <| unitStep dataRead s

/-- `PKT128_FIN`: `FIN_SEND` (R211), then the packet's bytes. -/
def execPkt128Fin (s : State) : Out :=
  atControl s ((s.isAt .eotSent .idle && !s.todo.isResp)
      || (s.isAt .finSent .idle && !s.todo.isResp && s.todo != .none) || s.isAt .finSent .tx) <|
    unitStep (fun u => .go (finSend u)) s

end Sys2Proof.Machine
end

