-- ==== Sys2Proof/Machine/Receive.lean ====
section
/-!
DEFINITION. The received bytes as instructions (spec/30_encoding.md R92 to R94, R99; spec/42_handshake.md R172 to
R180). Each is enabled where the core's read returns its byte. A failed or timed-out read is no instruction; it is
`readAborts` below (R172, R176, R178). The sequencer's operation on the response is the step after it (`respond`).
-/

namespace Sys2Proof.Machine

/-- The core reads a response and `RxRead` returns `b` (R172). -/
def State.reads (s : State) (h : Hs) (b : Byte) : Bool := s.busy && s.hs == h && s.rxAnswer == .byte b

/-- `RX_ACK`: `AWAIT` and `ON_ACK` (R172, R175): with the gate open the core polls next, otherwise the sequencer
has its `Ack`. -/
def execRxAck (s : State) : Out :=
  atControl s (s.reads .wait Config.ack) <|
    .next (if s.gate then { awaited Config.ack s with hs := .probe } else returned .ack (awaited Config.ack s))

/-- `RX_CA`: `AWAIT` and the first half of `ON_CA` (R172, R178): the core reads one more byte next. -/
def execRxCa (s : State) : Out :=
  atControl s (s.reads .wait Config.ca) <| .next { awaited Config.ca s with hs := .ca2 }

/-- `RX_NAK`: `AWAIT`, `ON_OTHER` and the retry decision of `HANDSHAKE` (R172, R179, R180). -/
def execRxNak (s : State) : Out :=
  atControl s (s.reads .wait Config.nak) <|
    .next (if s.kind ≠ .fin ∧ s.retry < s.params.maxRetries then
        beginSend false { awaited Config.nak s with retry := s.retry + 1 }
      else returned (.other Config.nak) (awaited Config.nak s))

/-- `RX_OTHER`: `AWAIT` and `ON_OTHER` (R172, R179). -/
def execRxOther (b : Byte) (s : State) : Out :=
  atControl s (s.reads .wait b) <| .next (returned (.other b) (awaited b s))

/-- `RX_CA2_ANY`: the second half of `ON_CA` (R178): the byte is discarded whatever it is. -/
def execRxCa2Any (b : Byte) (s : State) : Out :=
  atControl s (s.reads .ca2 b) <| .next (returned .cancel (s.rxTook b))

/-- `RX_EXTRA_ANY`: `PROBE` and the second half of `ON_ACK` (R175, R176): the byte, if there is one, is
discarded. -/
def execRxExtraAny (o : Option Byte) (s : State) : Out :=
  atControl s (s.busy && s.hs == .probe && s.pollAnswer == .got o) <| .next (returned .ack (s.pollTook o))

/-- A read that fails or times out aborts the session (R172, R176, R178; spec/60_exceptions.md R246, R247). -/
def readAborts (st : Status) (s : State) : Out := .next (raiseAbort st s)

end Sys2Proof.Machine
end

