-- ==== Sys2Proof/Machine/HostPort.lean ====
section
/-!
DEFINITION. The host command as an instruction (spec/43_sequencer.md R201, R202) and the moves of the other agents:
reset (spec/70_reset_and_hazards.md R270, R271), the host's duties (R272, R273), the receiver's bytes
(spec/10_state.md R24).
-/

namespace Sys2Proof.Machine

/-- The move at the head of the schedule has been made. -/
def State.moved (s : State) : State := { s with env := { s.env with sched := s.env.sched.tail } }

/-- The launch premise `FileAtZero` (R272 item 4): the file is open at offset 0 and its length fits `SIZE_BITS`. -/
def State.fileAtZero (s : State) : Bool :=
  s.env.file.isOpen && s.env.file.cursor == 0 && decide (s.env.file.size < 2 ^ s.params.sizeBits)

/-- The launch premise `RxQueueEmpty` (R272 item 3). -/
def State.rxQueueEmpty (s : State) : Bool := s.env.rxQueue.isEmpty

/-- The four launch premises of R272, without which a launch is refused (spec/93_implementation_defined.md O3). Where
the environment admits stale bytes, `RxQueueEmpty` is not asked for, so that the run R276 and vector V-E6 describe is
there too (DESIGN CHOICE, log entry 8). -/
def State.launchable (s : State) : Bool :=
  s.env.channelReady && s.env.crcModeRequested && (s.rxQueueEmpty || s.env.staleRxAdmitted) && s.fileAtZero

/-- `SESSION_START`: every session field is set, none inherited (R201). The observer's counts (`Env.wire`,
`Env.rxTaken`, `Env.fileReads`) are no fields of the session and run on (DESIGN CHOICE, log entry 15). -/
def sessionStart (s : State) : State :=
  { s with
    status := .none
    lastRespValid := false
    fclosed := false
    seq := 0#8
    bsel := false
    retry := 0
    hs := .idle
    txidx := 0#11
    phase := .headerSent
    todo := .none }

/-- `HOST_START`: `SESSION_START` (R201); while `BUSY` = 1 it is ignored (R202). -/
def execHostStart (s : State) : Out :=
  atControl s (s.env.sched.head? == some .hostStart) <|
    if s.busy then .next s.moved
    else if !s.params.wellFormed then .refused .illFormedParams
    else if !s.launchable then .refused .launchPremiseBroken
    else .next (sessionStart s.moved)

/-- Reset puts every register in its reset value and touches nothing else: the file is not closed, bytes written
stay on the wire (R270, R271). -/
def resetCore (s : State) : State := State.resetWith s.params s.env

/-- The receiver sends a byte, which joins the RX queue (R24). -/
def receiverSends (b : Byte) (s : State) : State :=
  { s with env := { s.env with rxQueue := s.env.rxQueue ++ [b] } }

/-- The host reads every byte of the RX queue (R272 item 3). -/
def drainQueue (s : State) : State := { s with env := { s.env with rxQueue := [] } }

/-- The host's four duties before `HostStart` (R272). -/
def handOver (size : Nat) (data : List Byte) (s : State) : State :=
  { s with env := { s.env with
      channelReady := true
      crcModeRequested := true
      rxQueue := []
      file := { size := size, data := data, cursor := 0, isOpen := true } } }

/-- A host move that uses the channel or the file: outside the spec while `BUSY` = 1
(R273; spec/93_implementation_defined.md O2). -/
def hostUses (s : State) (k : State) : Out := if s.busy then .refused .hostBreaksOwnership else .next k

end Sys2Proof.Machine
end

