-- ==== Sys2Proof/Machine/Fetch.lean ====
section
/-!
DEFINITION. What the core does next. It fetches nothing at a program counter (spec/10_state.md R29,
spec/20_memory.md R73): the control point and what the environment offers select the instruction. Also: how a word
of the opcode table is placed so that the very next step runs it.
-/

namespace Sys2Proof.Machine

/-- Decode bytes at a point and run what they stand for; the core stays where it is if they stand for nothing. -/
def fetched (p : ReadPoint) (bytes : List Byte) (s : State) : Fetched :=
  match decode p bytes with
  | .ok i => .run i s
  | .error _ => .own (.next s)

/-- A blocking read at `p`: its byte is decoded, its failure aborts, and while it has no answer the core waits
(R172, R178, R21). -/
def fetchRead (p : ReadPoint) (s : State) : Fetched :=
  match s.rxAnswer with
  | .byte b => fetched p [b] s
  | .err => .own (readAborts .channelOrFileError s.rxFailed)
  | .timeout => .own (readAborts .timeout s.rxFailed)
  | .wait => .own (.next s)

/-- The one poll of `PROBE` (R176). -/
def fetchPoll (s : State) : Fetched :=
  match s.pollAnswer with
  | .got o => fetched .extra o.toList s
  | .err => .own (readAborts .channelOrFileError s.pollFailed)

/-- What the sequencer runs while `HS` is idle: its operation on a response, which is no instruction of the table;
the next step of the opening header, of the next data packet or, where no byte is left, of the `EOT`; of the closing
header; after the closing header's response, the end of the session (R203, R206, R210, R212). -/
def fetchIdle (s : State) : Fetched :=
  if s.todo.isResp then .own (runTodo s).out
  else
    match s.phase with
    | .headerSent => .run .pkt128Hdr s
    | .dataLoop => .run (if s.eotNext then .eot else .pkt1024Data) s
    | .eotSent => .run .pkt128Fin s
    | .finSent => if s.todo = .none then .own (sessionEnd s) else .run .pkt128Fin s
    | .start => .own (.next s)
    | .closed => .own (.next s)
    | .aborted => .own (.next s)
    | .reserved7 => .own (.fault .reservedPhase)

/-- The unit that is on its way in a phase (R200, R204 to R211). -/
def fetchSend (s : State) : Fetched :=
  match s.phase with
  | .headerSent => .run .pkt128Hdr s
  | .dataLoop => .run .pkt1024Data s
  | .eotSent => .run .eot s
  | .finSent => .run .pkt128Fin s
  | .start => .own (.next s)
  | .closed => .own (.next s)
  | .aborted => .own (.next s)
  | .reserved7 => .own (.fault .reservedPhase)

/-- The core's own next step, selected by its control point (R29). Outside a session it makes no transaction and
changes no state (R217, R270). -/
def coreFetch (s : State) : Fetched :=
  if !s.busy then .own (.next s)
  else
    match s.hs with
    | .idle => fetchIdle s
    | .tx => fetchSend s
    | .wait => fetchRead .response s
    | .ca2 => fetchRead .cancelSecond s
    | .probe => fetchPoll s
    | .reserved5 => .own (.fault .reservedHs)
    | .reserved6 => .own (.fault .reservedHs)
    | .reserved7 => .own (.fault .reservedHs)

/-- The next step: the move the schedule names, the core's own where it names none (R20). A register that holds a
reserved code is a fault (R241); a reset needs none of them (R270). -/
def fetch (s : State) : Fetched :=
  match s.env.sched with
  | .reset :: _ => .own (.next (resetCore s.moved))
  | [] => s.reservedCode.elim (coreFetch s) fun f => .own (.fault f)
  | .core :: _ => s.reservedCode.elim (coreFetch s.moved) fun f => .own (.fault f)
  | .hostStart :: _ => fetched .hostCommand [0x01#8] s
  | .receiver b :: _ => .own (.next (receiverSends b s.moved))
  | .handOver size data :: _ => .own (hostUses s (handOver size data s.moved))
  | .drain :: _ => .own (hostUses s (drainQueue s.moved))

/-! ### Placing a word of the opcode table -/

/-- The control point `p`, `h`. -/
def State.placedAt (p : Phase) (h : Hs) (s : State) : State := { s with phase := p, hs := h }

/-- No internal operation is pending, the next answer of every transaction is the normal one, and the core moves
next. -/
def State.undisturbed (s : State) : State :=
  { s with todo := .none, env := { s.env with
      sched := []
      txDraws := []
      rxDraws := []
      pollDraws := []
      sizeDraws := []
      readDraws := [] } }

/-- `b` is the next byte of the RX queue. -/
def State.offered (b : Byte) (s : State) : State :=
  { s with env := { s.env with rxQueue := b :: s.env.rxQueue } }

/-- The control point and the environment at which the very next step runs `i`, whose bytes are `bytes`. A data
packet's payload is put into the file and its seq into `SEQ`; no bytes are left of the file for `EOT`. -/
def placeInstr (i : Instr) (bytes : List Byte) (s : State) : State :=
  let t := s.undisturbed
  match i with
  | .pkt128Hdr => t.placedAt .headerSent .idle
  | .pkt1024Data =>
    let u := t.placedAt .dataLoop .idle
    { u with
      bsel := true
      seq := bytes.getD 1 0#8
      env := { u.env with file :=
        { size := Config.bsData, data := (bytes.drop 3).take Config.bsData, cursor := 0, isOpen := true } } }
  | .eot =>
    let u := t.placedAt .dataLoop .idle
    { u with bsel := true, env := { u.env with file := FileSource.empty } }
  | .pkt128Fin => t.placedAt .eotSent .idle
  | .rxAck => (t.placedAt .headerSent .wait).offered Config.ack
  | .rxCa => (t.placedAt .headerSent .wait).offered Config.ca
  | .rxNak => (t.placedAt .headerSent .wait).offered Config.nak
  | .rxOther b => (t.placedAt .headerSent .wait).offered b
  | .rxCa2Any b => (t.placedAt .headerSent .ca2).offered b
  | .rxExtraAny none => { t.placedAt .headerSent .probe with
      env := { t.env with pollDraws := [.absent] } }
  | .rxExtraAny (some b) => (t.placedAt .headerSent .probe).offered b
  | .hostStart => { t with env := { t.env with sched := [.hostStart] } }

/-- Place the instruction the decoder reads from a word of the opcode table; a word that is no instruction changes
nothing. -/
def placeWord (nbits w : Nat) (s : State) : State :=
  match decodeTableWord nbits w with
  | some i => placeInstr i (bytesOfWord nbits w) s
  | none => s

end Sys2Proof.Machine
end

