-- ==== Sys2Proof/Machine/Dispatch.lean ====
section
/-! DEFINITION. The meaning of every instruction, one arm for each row of spec/opcode_table.json. -/

namespace Sys2Proof.Machine

def exec (i : Instr) (s : State) : Host.Outcome State Fault Refusal :=
  match i with
  | .pkt128Hdr => Sys2Proof.Machine.execPkt128Hdr s
  | .pkt1024Data => Sys2Proof.Machine.execPkt1024Data s
  | .eot => Sys2Proof.Machine.execEot s
  | .pkt128Fin => Sys2Proof.Machine.execPkt128Fin s
  | .rxAck => Sys2Proof.Machine.execRxAck s
  | .rxCa => Sys2Proof.Machine.execRxCa s
  | .rxNak => Sys2Proof.Machine.execRxNak s
  | .rxOther b => Sys2Proof.Machine.execRxOther b s
  | .rxCa2Any b => Sys2Proof.Machine.execRxCa2Any b s
  | .rxExtraAny o => Sys2Proof.Machine.execRxExtraAny o s
  | .hostStart => Sys2Proof.Machine.execHostStart s

end Sys2Proof.Machine
end

