-- ==== Sys2Proof/Machine/Step.lean ====
section
/-!
DEFINITION. One step of the machine (spec/10_state.md R21): the instruction that is selected runs, or the step is
one that is no instruction of the table. What is selected, and how a table word is placed, is Fetch.lean's.
-/

namespace Sys2Proof.Machine

/-- One step: next, fault or refusal. A core that waits answers the same state (R21, R253). -/
def step (s : State) : Host.Outcome State Fault Refusal :=
  match fetch s with
  | .run i t => exec i t
  | .own o => o

/-- `s` with the instruction of a table word placed so that the very next step runs it. -/
def State.withFetchWord (s : State) (nbits w : Nat) : State := placeWord nbits w s

end Sys2Proof.Machine
end

