-- ==== Sys2Proof/Safety.lean ====
section
/-!
DEFINITION. The terms statements use: the launch premises (spec/70_reset_and_hazards.md R272), what an observer sees
(spec/10_state.md R48), the two transition tables (spec/43_sequencer.md R200, spec/42_handshake.md R184), the
invariant every step keeps, and the control points at which an instruction completes.
-/

namespace Sys2Proof.Machine

/-! ### Control points -/

/-- The core is at phase `p` and handshake state `h`, and `STATUS` holds no reserved code. -/
abbrev At (s : State) (p : Phase) (h : Hs) : Prop := s.phase = p ∧ s.hs = h ∧ s.status ≠ .reserved7

/-- The core is in a busy phase at handshake state `h`, and `STATUS` holds no reserved code. -/
abbrev BusyAt (s : State) (h : Hs) : Prop := s.phase.isBusy = true ∧ s.hs = h ∧ s.status ≠ .reserved7

/-- The core is at phase `p` between two units or inside an operation of the sequencer, and `t` is next there. -/
abbrev Between (s : State) (p : Phase) (t : Todo) : Prop := At s p .idle ∧ s.todo = t

/-- It is the core's turn: the schedule is exhausted or names the core. -/
abbrev CoreTurn (s : State) : Prop := s.env.sched = [] ∨ s.env.sched.head? = some .core

/-- The phase in which a transmitted form is on its way (R200). -/
def sendPhase : Instr → Option Phase
  | .pkt128Hdr => some .headerSent
  | .pkt1024Data => some .dataLoop
  | .eot => some .eotSent
  | .pkt128Fin => some .finSent
  | .rxAck => none
  | .rxCa => none
  | .rxNak => none
  | .rxOther _ => none
  | .rxCa2Any _ => none
  | .rxExtraAny _ => none
  | .hostStart => none

/-! ### Launch premises and observation -/

/-- The four named launch premises of R272. -/
structure LaunchPremises (s : State) : Prop where
  channelReady : s.env.channelReady = true
  crcModeRequested : s.env.crcModeRequested = true
  rxQueueEmpty : s.env.rxQueue = []
  fileAtZero : s.fileAtZero = true

/-- What a program-free observer sees at the end of a session (R48). Whether the bytes and the reads are those of one
session or of all so far R48 does not say; here they run on over the sessions (DESIGN CHOICE, log entry 15). -/
structure Observation where
  wire : List Byte
  consumed : List Byte
  reads : Nat
  fclosed : Bool
  outputs : Outputs
  deriving DecidableEq, Repr

/-- The observation of a state (R48). -/
def observe (s : State) : Observation where
  wire := s.env.wire
  consumed := s.env.rxTaken
  reads := s.env.fileReads
  fclosed := s.fclosed
  outputs := outputs s

/-- What an observer may rely on: `LAST_RESP` says nothing while `LAST_RESP_VALID` is 0 (R274;
spec/93_implementation_defined.md U5). -/
def view (s : State) : Observation :=
  { observe s with outputs :=
    { outputs s with lastResp := if s.lastRespValid then s.lastResp else 0#8 } }

/-- Two outcomes an observer cannot tell apart. -/
def SameOutcome : Out → Out → Prop
  | .next s, .next t => view s = view t
  | .fault f, .fault g => f = g
  | .refused r, .refused q => r = q
  | .next _, .fault _ => False
  | .next _, .refused _ => False
  | .fault _, .next _ => False
  | .fault _, .refused _ => False
  | .refused _, .next _ => False
  | .refused _, .fault _ => False

/-- `n` steps of the machine. -/
def stepsFrom (n : Nat) (s : State) : Out := Host.Core.run Sys2Proof.core n s

/-- `n` steps of one instruction, with no move of another agent between them. -/
def execs : Nat → Instr → State → Out
  | 0, _, s => .next s
  | n + 1, i, s =>
    match exec i s with
    | .next t => execs n i t
    | .fault f => .fault f
    | .refused r => .refused r

/-- How many steps a transmitted form takes to have its unit built: its file transaction, if it has one, and its
internal operations (R203, R204, R206, R207, R209, R211). -/
def buildSteps : Instr → Nat
  | .pkt128Hdr => 5
  | .pkt1024Data => 4
  | .eot => 2
  | .pkt128Fin => 4
  | .rxAck => 0
  | .rxCa => 0
  | .rxNak => 0
  | .rxOther _ => 0
  | .rxCa2Any _ => 0
  | .rxExtraAny _ => 0
  | .hostStart => 0

/-! ### The environment after one transaction -/

/-- `TxWrite(b)` was accepted (R23). -/
def Env.afterWrite (b : Byte) (e : Env) : Env := { e with txDraws := e.txDraws.tail, wire := e.wire ++ [b] }

/-- `RxRead` returned `b` (R24). -/
def Env.afterRead (b : Byte) (e : Env) : Env :=
  { e with rxDraws := e.rxDraws.tail, rxQueue := e.rxQueue.tail, rxTaken := e.rxTaken ++ [b] }

/-- `RxPoll` returned `o` (R24). -/
def Env.afterPoll (o : Option Byte) (e : Env) : Env :=
  match o with
  | none => { e with pollDraws := e.pollDraws.tail }
  | some b => { e with pollDraws := e.pollDraws.tail, rxQueue := e.rxQueue.tail, rxTaken := e.rxTaken ++ [b] }

/-- `FileRead` returned `n` bytes (R25, R62). -/
def Env.afterFileRead (n : Nat) (e : Env) : Env :=
  { e with
    readDraws := e.readDraws.tail
    fileReads := e.fileReads + 1
    file := { e.file with cursor := e.file.cursor + n } }

/-- The file was closed (R213). -/
def Env.fileClosed (e : Env) : Env := { e with file := { e.file with isOpen := false } }

/-- The schedule's first move was made. -/
def Env.moveMade (e : Env) : Env := { e with sched := e.sched.tail }

/-! ### Where an instruction is offered -/

/-- `HANDSHAKE` has returned, and the sequencer's operation on the response is next (R174). -/
abbrev AnswerPending (s : State) : Prop := ∃ r, s.todo = .resp r

/-- In the data loop the `EOT` is next (R206). -/
abbrev EotNext (s : State) : Prop := s.todo = .eotSend ∨ (s.todo = .none ∧ s.readAnswer = .chunk [])

/-- The control point and the offer at which an instruction runs (R29, R99). -/
def Enabled (i : Instr) (s : State) : Prop :=
  match i with
  | .pkt128Hdr => s.phase = .headerSent ∧ (s.hs = .tx ∨ (s.hs = .idle ∧ ¬ AnswerPending s))
  | .pkt1024Data => s.phase = .dataLoop ∧ (s.hs = .tx ∨ (s.hs = .idle ∧ ¬ AnswerPending s ∧ ¬ EotNext s))
  | .eot => (s.phase = .dataLoop ∧ s.hs = .idle ∧ EotNext s) ∨ (s.phase = .eotSent ∧ s.hs = .tx)
  | .pkt128Fin => (s.phase = .eotSent ∧ s.hs = .idle ∧ ¬ AnswerPending s)
      ∨ (s.phase = .finSent ∧ (s.hs = .tx ∨ (s.hs = .idle ∧ ¬ AnswerPending s ∧ s.todo ≠ .none)))
  | .rxAck => s.phase.isBusy = true ∧ s.hs = .wait ∧ s.rxAnswer = .byte Config.ack
  | .rxCa => s.phase.isBusy = true ∧ s.hs = .wait ∧ s.rxAnswer = .byte Config.ca
  | .rxNak => s.phase.isBusy = true ∧ s.hs = .wait ∧ s.rxAnswer = .byte Config.nak
  | .rxOther b => s.phase.isBusy = true ∧ s.hs = .wait ∧ s.rxAnswer = .byte b
  | .rxCa2Any b => s.phase.isBusy = true ∧ s.hs = .ca2 ∧ s.rxAnswer = .byte b
  | .rxExtraAny o => s.phase.isBusy = true ∧ s.hs = .probe ∧ s.pollAnswer = .got o
  | .hostStart => s.env.sched.head? = some .hostStart

/-! ### The transition tables -/

/-- The transaction of the step answers `err` (R26, R246). -/
def TransactionError (s : State) : Prop :=
  (s.hs = .idle ∧ s.todo = .none ∧ s.phase = .headerSent ∧ s.sizeAnswer = .err)
  ∨ (s.hs = .idle ∧ s.todo = .none ∧ s.phase = .dataLoop ∧ s.readAnswer = .err)
  ∨ (s.hs = .tx ∧ s.txAnswer = .err)
  ∨ ((s.hs = .wait ∨ s.hs = .ca2) ∧ s.rxAnswer = .err)
  ∨ (s.hs = .probe ∧ s.pollAnswer = .err)

/-- Why a session ends in `ABORTED`: the status, and the step that raises it: the internal operation that finds the
cause, or the transaction that fails (R240, R242 to R247). -/
def AbortCause (s t : State) : Prop :=
  (t.status = .framingError ∧ s.hs = .idle
      ∧ ((s.todo = .hdrEncode ∧ s.blockSize < (headerFields s.params.logicalName s.fsize).length)
          ∨ ∃ chunk, s.todo = .dataSend chunk ∧ s.blockSize < chunk.length))
  ∨ (t.status = .cancelled ∧ s.hs = .idle ∧ s.todo = .resp .cancel ∧ s.phase ≠ .finSent)
  ∨ (t.status = .unexpectedResponse ∧ s.hs = .idle ∧ (∃ b, s.todo = .resp (.other b)) ∧ s.phase ≠ .finSent)
  ∨ (t.status = .channelOrFileError ∧ TransactionError s)
  ∨ (t.status = .timeout ∧ s.params.timeoutEnabled = true ∧ (s.hs = .wait ∨ s.hs = .ca2) ∧ s.rxAnswer = .timeout)

/-- The step takes an `Ack` out of `HANDSHAKE` (R175): an `ACK` was read with the gate closed, or the one poll of an
open gate was answered. -/
def Acknowledged (s : State) : Prop :=
  (s.hs = .wait ∧ s.rxAnswer = .byte Config.ack ∧ s.gate = false) ∨ (s.hs = .probe ∧ ∃ o, s.pollAnswer = .got o)

/-- The step takes the response `r` out of `HANDSHAKE` (R174): an `Ack`, a `Cancel`, or another byte that is not
retried (R178 to R180). -/
def Answered (s : State) : Resp → Prop
  | .ack => Acknowledged s
  | .cancel => s.hs = .ca2 ∧ ∃ b, s.rxAnswer = .byte b
  | .other b => s.hs = .wait ∧ s.rxAnswer = .byte b ∧ b ≠ Config.ack ∧ b ≠ Config.ca
      ∧ (b = Config.nak → s.kind = .fin ∨ s.params.maxRetries ≤ s.retry)

/-- The rows of R200: from the phase of `s` to the phase of `t`, each with its event. The operation on a response,
`FIN_SEND` and `finish` are steps of their own; `TodoMove` and `AfterLastResponse` say what came before them (log
entry 3). -/
def PhaseMove (s t : State) : Prop :=
  ((s.phase = .start ∨ s.phase = .closed ∨ s.phase = .aborted)
      ∧ t.phase = .headerSent ∧ s.env.sched.head? = some .hostStart)
  ∨ (s.phase = .headerSent ∧ t.phase = .dataLoop ∧ s.hs = .idle ∧ s.todo = .resp .ack)
  ∨ (s.phase = .dataLoop ∧ t.phase = .eotSent ∧ s.hs = .idle ∧ s.todo = .eotSend ∧ t.hs = .tx)
  ∨ (s.phase = .eotSent ∧ t.phase = .finSent ∧ s.hs = .idle ∧ s.todo = .none ∧ t.todo = .finEncode)
  ∨ (s.phase = .finSent ∧ t.phase = .closed ∧ s.hs = .idle ∧ s.todo = .none ∧ t.status = .success)
  ∨ (s.phase.isBusy = true ∧ t.phase = .aborted ∧ AbortCause s t)

/-- How the next internal operation follows from the one before it, or from the transaction before it
(R174, R203 to R212). -/
def TodoMove (s t : State) : Prop :=
  (∃ r, t.todo = .resp r ∧ t.hs = .idle ∧ Answered s r)
  ∨ (s.hs = .idle ∧
      ((s.phase = .headerSent ∧ s.todo = .none ∧ s.sizeAnswer = .answer ∧ t.todo = .hdrSend)
        ∨ (s.todo = .hdrSend ∧ t.todo = .hdrEncode)
        ∨ (s.todo = .hdrEncode ∧ t.todo = .pad)
        ∨ (s.phase = .dataLoop ∧ s.todo = .none ∧ s.readAnswer = .chunk [] ∧ t.todo = .eotSend)
        ∨ (s.phase = .dataLoop ∧ s.todo = .none
            ∧ ∃ chunk, chunk ≠ [] ∧ s.readAnswer = .chunk chunk ∧ t.todo = .dataSend chunk)
        ∨ ((∃ chunk, s.todo = .dataSend chunk) ∧ t.todo = .pad)
        ∨ (s.phase = .eotSent ∧ s.todo = .none ∧ t.todo = .finEncode)
        ∨ (s.todo = .finEncode ∧ t.todo = .pad)
        ∨ (s.todo = .pad ∧ t.todo = .buildPacket)
        ∨ ((s.todo = .buildPacket ∨ s.todo = .eotSend) ∧ t.todo = .none ∧ t.hs = .tx)
        ∨ ((∃ r, s.todo = .resp r) ∧ t.todo = .none)))
  ∨ (t.todo = .none ∧ (t.phase = .aborted ∨ s.env.sched.head? = some .hostStart))

/-- `EOT_SENT` and `FIN_SENT` come to the point where `FIN_SEND` and `finish` are next only by the operation on a
response: by an `Ack` to the `EOT`, by any response to the closing header (R210, R212). -/
def AfterLastResponse (s t : State) : Prop :=
  (t.phase = .eotSent → t.hs = .idle → t.todo = .none →
    (s.phase = .eotSent ∧ s.hs = .idle ∧ (s.todo = .none ∨ s.todo = .resp .ack)))
  ∧ (t.phase = .finSent → t.hs = .idle → t.todo = .none →
    (s.phase = .finSent ∧ s.hs = .idle ∧ (s.todo = .none ∨ ∃ r, s.todo = .resp r)))

/-- The rows of R184: from the handshake state of `s` to that of `t`, each with its event. -/
def HsMove (s t : State) : Prop :=
  (s.hs = .idle ∧ t.hs = .tx ∧ (s.todo = .buildPacket ∨ s.todo = .eotSend))
  ∨ (s.hs = .tx ∧ t.hs = .wait ∧ s.pktlen.toNat ≤ s.txidx.toNat + 1)
  ∨ (s.hs = .wait ∧ t.hs = .probe ∧ s.rxAnswer = .byte Config.ack ∧ s.gate = true)
  ∨ (s.hs = .wait ∧ t.hs = .ca2 ∧ s.rxAnswer = .byte Config.ca)
  ∨ (s.hs = .wait ∧ t.hs = .tx ∧ s.rxAnswer = .byte Config.nak ∧ s.kind ≠ .fin ∧ s.retry < s.params.maxRetries)
  ∨ (s.hs ≠ .idle ∧ t.hs = .idle ∧ ∃ r, t.todo = .resp r ∧ Answered s r)
  ∨ ((s.hs = .wait ∨ s.hs = .ca2) ∧ t.hs = .idle ∧ t.phase = .aborted ∧ (s.rxAnswer = .err ∨ s.rxAnswer = .timeout))
  ∨ (s.hs = .probe ∧ t.hs = .idle ∧ t.phase = .aborted ∧ s.pollAnswer = .err)
  ∨ (s.hs = .tx ∧ t.hs = .idle ∧ t.phase = .aborted ∧ s.txAnswer = .err)

/-! ### Transactions -/

/-- The environment goes from `e` to `f` by at most one transaction of R14, made at the control point of `s` that
makes it; a transaction that is refused, held back or timed out uses up its draw only (R21, R26, R62, R71). -/
def AtMostOneTransaction (s : State) (e f : Env) : Prop :=
  f = e
  -- `TxWrite`
  ∨ (s.hs = .tx ∧ s.txAnswer = .accept ∧ ∃ b, s.packetByte s.txidx.toNat = .ok b ∧ f = e.afterWrite b)
  ∨ (s.hs = .tx ∧ s.txAnswer ≠ .accept ∧ f = { e with txDraws := e.txDraws.tail })
  -- `RxRead`
  ∨ ((s.hs = .wait ∨ s.hs = .ca2) ∧ ∃ b, s.rxAnswer = .byte b ∧ e.rxQueue.head? = some b ∧ f = e.afterRead b)
  ∨ ((s.hs = .wait ∨ s.hs = .ca2) ∧ (s.rxAnswer = .err ∨ s.rxAnswer = .timeout)
      ∧ f = { e with rxDraws := e.rxDraws.tail })
  -- `RxPoll`
  ∨ (s.hs = .probe ∧ ∃ o, s.pollAnswer = .got o ∧ f = e.afterPoll o)
  ∨ (s.hs = .probe ∧ s.pollAnswer = .err ∧ f = { e with pollDraws := e.pollDraws.tail })
  -- `FileSize`
  ∨ (s.phase = .headerSent ∧ s.hs = .idle ∧ s.todo = .none ∧ f = { e with sizeDraws := e.sizeDraws.tail })
  -- `FileRead`
  ∨ (s.phase = .dataLoop ∧ s.hs = .idle ∧ s.todo = .none ∧ ∃ c, s.readAnswer = .chunk c ∧ f = e.afterFileRead c.length)
  ∨ (s.phase = .dataLoop ∧ s.hs = .idle ∧ s.todo = .none ∧ s.readAnswer = .err ∧ f = e.afterFileRead 0)
  ∨ (s.phase = .dataLoop ∧ s.hs = .idle ∧ s.todo = .none ∧ s.readAnswer = .hold
      ∧ f = { e with readDraws := e.readDraws.tail })
  -- `FileClose`: of `finish`, or of an abort that an internal operation raises
  ∨ (s.hs = .idle ∧ s.fclosed = false ∧ f = e.fileClosed
      ∧ ((s.phase = .finSent ∧ s.todo = .none) ∨ s.todo = .hdrEncode ∨ (∃ chunk, s.todo = .dataSend chunk)
          ∨ ∃ r, s.todo = .resp r))

/-! ### The invariant -/

/-- The payload of the current block is there and `CRC` is its CRC (R148). -/
def State.crcFits (s : State) : Bool :=
  match memRead s.pbuf 0 s.blockSize with
  | some payload => s.crc == crc16 payload Config.crcInitial
  | none => false

/-- The registers describe the unit that the phase sends: its kind, framing, number and length
(R33, R34, R37, R204, R207, R209, R211). -/
def State.unitFits (s : State) : Bool :=
  match s.phase with
  | .headerSent => s.kind == .hdr && !s.bsel && s.seq == 0#8 && s.pktlen == 133#11 && s.crcFits
  | .dataLoop => s.kind == .data && s.bsel && s.pktlen == 1029#11 && s.crcFits
  | .eotSent => s.kind == .eot && s.bsel && s.pktlen == 1#11
  | .finSent => s.kind == .fin && !s.bsel && s.seq == 0#8 && s.pktlen == 133#11 && s.crcFits
  | .start => false
  | .closed => false
  | .aborted => false
  | .reserved7 => false

/-- What holds where the control point alone says what is next: the framing and the number the next unit needs
(R204 to R210). -/
def State.restFits (s : State) : Bool :=
  match s.phase with
  | .headerSent => !s.bsel && s.seq == 0#8
  | .dataLoop => s.bsel
  | .eotSent => s.bsel
  | .finSent => !s.bsel && s.seq == 0#8 && s.lastRespValid
  | .start => true
  | .closed => true
  | .aborted => true
  | .reserved7 => false

/-- While a packet is built: its kind, framing and number are those of its phase (R204, R207, R211). -/
def State.packetFits (s : State) : Bool :=
  match s.phase with
  | .headerSent => s.kind == .hdr && !s.bsel && s.seq == 0#8
  | .dataLoop => s.kind == .data && s.bsel
  | .finSent => s.kind == .fin && !s.bsel && s.seq == 0#8
  | .eotSent => false
  | .start => false
  | .closed => false
  | .aborted => false
  | .reserved7 => false

/-- A response the sequencer has not acted on yet: it is the last one read, and the framing is that of the unit it
answers (R174, R175, R178, R179). -/
def State.respFits (r : Resp) (s : State) : Bool :=
  s.lastRespValid
  && (match r with
      | .ack => s.lastResp == Config.ack
      | .cancel => s.lastResp == Config.ca
      | .other b => s.lastResp == b && b != Config.ack && b != Config.ca)
  && (match s.phase with
      | .headerSent => true
      | .dataLoop => s.bsel
      | .eotSent => s.bsel
      | .finSent => !s.bsel && s.seq == 0#8
      | .start => false
      | .closed => false
      | .aborted => false
      | .reserved7 => false)

/-- What holds while `HS` is idle, by the internal operation that is next (R203 to R212). -/
def State.idleFits (s : State) : Bool :=
  match s.todo with
  | .none => s.restFits
  | .hdrSend => s.phase == .headerSent
  | .hdrEncode => s.phase == .headerSent && s.packetFits
  | .dataSend chunk => s.phase == .dataLoop && s.bsel && chunk != []
  | .eotSend => s.phase == .dataLoop && s.bsel
  | .finEncode => s.phase == .finSent && s.packetFits
  | .pad => s.packetFits && decide (s.plen.toNat ≤ s.blockSize) && (memRead s.pbuf 0 s.plen.toNat).isSome
  | .buildPacket => s.packetFits && (memRead s.pbuf 0 s.blockSize).isSome
  | .resp r => s.respFits r

/-- What a handshake state says of the unit's index and of the last response (R171, R175, R178); an internal
operation of the sequencer is next only while `HS` is idle. -/
def State.hsFits (s : State) : Bool :=
  match s.hs with
  | .idle => s.idleFits
  | .tx => s.todo == .none && s.unitFits && decide (s.txidx < s.pktlen)
  | .wait => s.todo == .none && s.unitFits && s.txidx == s.pktlen
  | .ca2 => s.todo == .none && s.unitFits && s.txidx == s.pktlen && s.lastRespValid && s.lastResp == Config.ca
  | .probe => s.todo == .none && s.unitFits && s.txidx == s.pktlen && s.lastRespValid && s.lastResp == Config.ack
      && s.gate
  | .reserved5 => false
  | .reserved6 => false
  | .reserved7 => false

/-- What each ending records (R240, R243 to R247), and that no status is set before the end (R40). -/
def State.statusFits (s : State) : Bool :=
  match s.phase with
  | .closed => s.status == .success && s.lastRespValid
  | .aborted =>
    match s.status with
    | .cancelled => s.lastRespValid && s.lastResp == Config.ca
    | .unexpectedResponse => s.lastRespValid && s.lastResp != Config.ack && s.lastResp != Config.ca
    | .timeout => s.params.timeoutEnabled
    | .framingError => true
    | .channelOrFileError => true
    | .none => false
    | .success => false
    | .reserved7 => false
  | .start => s.status == .none
  | .headerSent => s.status == .none
  | .dataLoop => s.status == .none
  | .eotSent => s.status == .none
  | .finSent => s.status == .none
  | .reserved7 => false

/-- The file source keeps the upper bound of R63 of spec/20_memory.md: no read gives more than 1024 bytes, in the draws
to come and in the chunk that is not loaded yet. That a read gives 0 bytes only at the end of the file holds of every
draw (`readAnswer`). -/
structure FileKeepsBound (s : State) : Prop where
  draws : ∀ more, ReadDraw.give more ∈ s.env.readDraws → more + 1 ≤ 1024
  chunk : ∀ chunk, s.todo = .dataSend chunk → chunk.length ≤ 1024

/-- The invariant of the core. -/
structure CoreInv (s : State) : Prop where
  /-- the payload buffer keeps its canonical form (R36, R61) -/
  pbufWf : s.pbuf.wf = true
  /-- at most 1024 source bytes (R36) -/
  plenBound : s.plen.toNat ≤ 1024
  /-- the measured size fits its width (R38) -/
  fsizeBound : s.fsize < 2 ^ s.params.sizeBits
  /-- retries stay within the policy (R39) -/
  retryBound : s.retry ≤ s.params.maxRetries
  /-- the file is closed exactly in the terminal phases (R43, R213) -/
  fclosedIff : s.fclosed = s.phase.isTerminal
  /-- no reserved code, and the registers fit the control point (R30, R31) -/
  hsFits : s.hsFits = true
  /-- what the status says (R40) -/
  statusFits : s.statusFits = true

end Sys2Proof.Machine
end

