-- ==== Sys2Proof/Certificates/Slice0/Obligations.lean ====
section
/-!
DEFINITION. The statements for the provers. Each is a proposition of its own; its docstring names the rules of spec/
it formalises. Where a statement says what an instruction leaves unchanged, it does so by giving the next state as
the state before with the listed fields changed; the payload buffer is spoken of byte by byte.
-/

open Sys2Proof Sys2Proof.Machine

/-! ### Reset -/

/-- R270: what `State.reset` holds, register by register, where the spec gives a value; no byte of `PBUF` holds one.
`CRC`, `PLEN`, `PKTLEN`, `FSIZE` and `LAST_RESP` are left out: their values at reset are the model's choice (log
entry 1). R22, R40, R42: at every state the outputs are `STATUS` by its code, `LAST_RESP` and its valid bit as they
stand, and `BUSY` and `DONE` as `PHASE` says. -/
def Obligations.ResetLeaves : Prop :=
  (State.reset.phase = .start ∧ State.reset.hs = .idle ∧ State.reset.seq = 0#8 ∧ State.reset.bsel = false
    ∧ State.reset.kind = .hdr ∧ State.reset.txidx = 0#11 ∧ State.reset.retry = 0 ∧ State.reset.status = .none
    ∧ State.reset.lastRespValid = false ∧ State.reset.fclosed = false
    ∧ (∀ a, memByte State.reset.pbuf a = none)
    ∧ State.reset.busy = false ∧ State.reset.done = false ∧ (outputs State.reset).status = 0#3)
  ∧ ∀ s : State,
    ((outputs s).busy = true ↔ s.phase = .headerSent ∨ s.phase = .dataLoop ∨ s.phase = .eotSent ∨ s.phase = .finSent)
    ∧ ((outputs s).done = true ↔ s.phase = .closed ∨ s.phase = .aborted)
    ∧ (s.status = .none → (outputs s).status = 0#3)
    ∧ (s.status = .success → (outputs s).status = 1#3)
    ∧ (s.status = .cancelled → (outputs s).status = 2#3)
    ∧ (s.status = .framingError → (outputs s).status = 3#3)
    ∧ (s.status = .unexpectedResponse → (outputs s).status = 4#3)
    ∧ (s.status = .channelOrFileError → (outputs s).status = 5#3)
    ∧ (s.status = .timeout → (outputs s).status = 6#3)
    ∧ (outputs s).lastResp = s.lastResp ∧ (outputs s).lastRespValid = s.lastRespValid

/-- R270, R271: a reset during a session or outside one puts every register the spec gives a value in that value at
once and touches nothing outside the core: not the wire, not the RX queue, not the file. Two clauses are the model's
choice, not the rules': that a reset is accepted also where a register holds a reserved code (log entry 13, DESIGN
CHOICE), and that it leaves no byte of `PBUF` a value (log entry 2, DESIGN CHOICE). -/
def Obligations.ResetAbandonsSession : Prop :=
  ∀ s : State, s.env.sched.head? = some .reset →
    ∃ t, step s = .next t
      ∧ t.phase = .start ∧ t.hs = .idle ∧ t.seq = 0#8 ∧ t.bsel = false ∧ t.kind = .hdr ∧ t.txidx = 0#11
      ∧ t.retry = 0 ∧ t.status = .none ∧ t.lastRespValid = false ∧ t.fclosed = false
      ∧ (∀ a, memByte t.pbuf a = none) ∧ t.params = s.params ∧ t.env = s.env.moveMade

/-! ### The CRC engine -/

/-- R121: every entry of the table is the bit-serial CRC of its index. -/
def Obligations.CrcTableGenerated : Prop := ∀ i : Byte, crcTable i = tablegen i

/-- R126: the table-driven CRC is the bit-serial CRC, for every byte string and every initial value. -/
def Obligations.CrcEqualsBitSerial : Prop :=
  ∀ (data : List Byte) (initial : U16), crc16 data initial = crcBitwise data initial

/-- R124, corner cases: one step is a bijection on the accumulator for a fixed byte. -/
def Obligations.CrcStepBijective : Prop := ∀ b : Byte, Function.Bijective fun c : U16 => crcNext c b

/-- R125: `CRC16` on the register `CRC` is `CRC_INIT` and then one `CRC_STEP` for each byte, first byte first; it
changes `CRC` only. The empty string gives `initial`; the check string gives 0x31C3. -/
def Obligations.CrcRunsItsSteps : Prop :=
  (∀ (data : List Byte) (initial : U16) (s : State),
      runCrc16 data initial s = data.foldl (fun u b => crcStep b u) (crcInit initial s)
      ∧ runCrc16 data initial s = { s with crc := crc16 data initial })
  ∧ (∀ initial : U16, crc16 [] initial = initial)
  ∧ crc16 [0x31#8, 0x32#8, 0x33#8, 0x34#8, 0x35#8, 0x36#8, 0x37#8, 0x38#8, 0x39#8] 0x0000#16 = 0x31C3#16

/-- R128: zero bytes have CRC 0 at every length; the CRCs of two blocks of pad bytes. -/
def Obligations.CrcOfConstantBlocks : Prop :=
  (∀ n : Nat, crc16 (List.replicate n 0x00#8) 0x0000#16 = 0x0000#16)
  ∧ crc16 (List.replicate 128 0x1A#8) 0x0000#16 = 0xF8B0#16
  ∧ crc16 (List.replicate 1024 0x1A#8) 0x0000#16 = 0xFC96#16

/-! ### Encoding and decoding -/

/-- Decoding the bytes of a well-formed instruction, at the point where its bytes are read, gives it back (R91 to
R96, R99). -/
def Obligations.DecodeEncodeAgree : Prop :=
  ∀ (i : Instr) (f : WireFields), i.wellFormed = true → f.wellFormed i = true →
    decode i.readPoint (encode f i) = .ok i

/-- Reading back a transmitted unit gives its form and every field of it: no bit of an encoding is dropped
(R81 to R91). -/
def Obligations.TransmittedUnitRoundTrip : Prop :=
  ∀ (i : Instr) (f : WireFields), i.readPoint = .transmit → f.wellFormed i = true →
    parseUnit (encode f i) = .ok (i, f)

/-- Bytes that read back as a unit are that unit's encoding, bit for bit: the inverse, the CRC and a header's number
cannot differ (R81, R83, R84). -/
def Obligations.ParsedUnitIsItsEncoding : Prop :=
  ∀ (bytes : List Byte) (i : Instr) (f : WireFields), parseUnit bytes = .ok (i, f) →
    i.readPoint = .transmit ∧ f.wellFormed i = true ∧ encode f i = bytes

/-- R85: the first byte alone tells the length of a transmitted unit, and no other first byte is sent. -/
def Obligations.FirstByteTellsLength : Prop :=
  (∀ (i : Instr) (f : WireFields), i.readPoint = .transmit → f.wellFormed i = true →
      ∃ b rest, encode f i = b :: rest ∧ unitLength b = some (encode f i).length)
  ∧ unitLength 0x01#8 = some 133 ∧ unitLength 0x02#8 = some 1029 ∧ unitLength 0x04#8 = some 1
  ∧ ∀ b : Byte, b ≠ 0x01#8 → b ≠ 0x02#8 → b ≠ 0x04#8 → unitLength b = none

/-- R87: `dec(size)` is the digits of `size` in base 10, most significant first, each as `0x30 + d`, without leading
zeros, at least one, and at most ten for a 32-bit size. -/
def Obligations.DecimalSizeDigits : Prop :=
  ∀ size : Nat,
    decEncode size = (Nat.toDigits 10 size).map (fun c => BitVec.ofNat 8 c.toNat)
    ∧ (size ≠ 0 → (decEncode size).head? ≠ some 0x30#8)
    ∧ 1 ≤ (decEncode size).length
    ∧ (size < 2 ^ 32 → (decEncode size).length ≤ 10)

/-- R10, R86, R146; spec/95_test_vectors.md W6: with well-formed parameters the header fields fit 128 bytes at every
size that fits `SIZE_BITS`, and the name and the size can be read back out of the payload. -/
def Obligations.HeaderRoundTrip : Prop :=
  ∀ (p : Params) (size : Nat), p.wellFormed = true → size < 2 ^ p.sizeBits →
    (headerFields p.logicalName size).length = p.logicalName.length + (decEncode size).length + 2
    ∧ (headerFields p.logicalName size).length ≤ 128
    ∧ readHeader (padded p.padByte 128 (headerFields p.logicalName size)) = (p.logicalName, size)

/-- R92 to R94: every response byte has exactly one class, in the priority order `ACK`, `CA`, `NAK`, other; the
second byte of a cancel and the extra byte are not decoded. -/
def Obligations.ReceivedBytesDecode : Prop :=
  (∀ b : Byte, decode .response [b] = .ok (if b = 0x06#8 then .rxAck else if b = 0x18#8 then .rxCa
      else if b = 0x15#8 then .rxNak else .rxOther b))
  ∧ (∀ b : Byte, (decodeResponse b).wellFormed = true)
  ∧ (∀ b : Byte, decode .cancelSecond [b] = .ok (.rxCa2Any b))
  ∧ (∀ b : Byte, decode .extra [b] = .ok (.rxExtraAny (some b)))
  ∧ decode .extra [] = .ok (.rxExtraAny none)

/-- A few words of the spec decode to the instruction they stand for (R99). -/
def Obligations.SpecWordsDecode : Prop :=
  decode .transmit [0x04#8] = .ok .eot
  ∧ decode .transmit ([0x01#8, 0x00#8, 0xFF#8, 0x00#8, 0x30#8, 0x20#8] ++ List.replicate 125 0x1A#8
      ++ [0xB8#8, 0xC3#8]) = .ok .pkt128Fin
  ∧ decode .response [0x06#8] = .ok .rxAck
  ∧ decode .response [0x43#8] = .ok (.rxOther 0x43#8)
  ∧ decode .hostCommand [0x01#8] = .ok .hostStart

/-! ### One step runs the decoded instruction -/

/-- In the core's turn a step is `exec` of the instruction that the control point selects, or that the byte read
there decodes to, at the state in which the schedule's move is made; a `HostStart` on the command input is decoded
and run the same way (R29, R99, R20). The schedule that says whose turn it is, and the place between two internal
operations, are the model's (log entries 4, 3). -/
def Obligations.StepRunsDecoded : Prop :=
  (∀ s : State, CoreTurn s → s.reservedCode = none →
    (∀ i p, sendPhase i = some p → s.phase = p → s.hs = .tx → step s = exec i s.moved)
    ∧ (s.phase = .headerSent → s.hs = .idle → ¬ AnswerPending s → step s = exec .pkt128Hdr s.moved)
    ∧ (s.phase = .dataLoop → s.hs = .idle → ¬ AnswerPending s → ¬ EotNext s → step s = exec .pkt1024Data s.moved)
    ∧ (s.phase = .dataLoop → s.hs = .idle → EotNext s → step s = exec .eot s.moved)
    ∧ (s.phase = .eotSent → s.hs = .idle → ¬ AnswerPending s → step s = exec .pkt128Fin s.moved)
    ∧ (s.phase = .finSent → s.hs = .idle → ¬ AnswerPending s → s.todo ≠ .none → step s = exec .pkt128Fin s.moved)
    ∧ (∀ b i, s.phase.isBusy = true → s.hs = .wait → s.rxAnswer = .byte b → decode .response [b] = .ok i →
        i.wellFormed = true ∧ step s = exec i s.moved)
    ∧ (∀ b i, s.phase.isBusy = true → s.hs = .ca2 → s.rxAnswer = .byte b → decode .cancelSecond [b] = .ok i →
        step s = exec i s.moved)
    ∧ (∀ o i, s.phase.isBusy = true → s.hs = .probe → s.pollAnswer = .got o → decode .extra o.toList = .ok i →
        step s = exec i s.moved))
  ∧ (∀ s i, s.env.sched.head? = some .hostStart → decode .hostCommand [0x01#8] = .ok i → step s = exec i s)

/-- R149, R81: where the current unit is the byte string `bytes`, `PacketByte(i)` gives its byte `i`. -/
def Obligations.PacketByteReadsUnit : Prop :=
  ∀ (s : State) (bytes : List Byte), s.pbuf.wf = true → s.unitBytes = some bytes →
    ∀ i b, bytes[i]? = some b → s.packetByte i = .ok b

/-- A unit that an instruction has built, in as many steps as that takes, is a well-formed unit of that
instruction's form, of `PKTLEN` bytes, and decodes to it (R81, R91, R97, R204 to R211). How many steps that takes is
the model's reading of R21 (log entry 3, DEDUCED). -/
def Obligations.BuiltUnitsDecode : Prop :=
  ∀ (i : Instr) (s t : State), i.readPoint = .transmit → s.params.wellFormed = true →
    (i = .pkt1024Data → s.bsel = true) → s.hs = .idle → s.todo = .none →
    execs (buildSteps i) i s = .next t → t.hs = .tx →
      ∃ f bytes, t.unitBytes = some bytes ∧ f.wellFormed i = true ∧ bytes = encode f i
        ∧ decode .transmit bytes = .ok i ∧ bytes.length = t.pktlen.toNat

/-! ### The transmitted forms -/

/-- R203, R204, R146, R144, R148: at the start of a session the first step of `PKT128_HDR` is `FileSize`, which
gives `FSIZE`. Four internal operations later (R21; log entry 3) the opening header is ready: `SEQ` = 0, `BSEL` = 0,
`KIND` = `HDR`, the padded fields in `PBUF`, their CRC, `PKTLEN` = 133; nothing else changes, no byte above the
block. -/
def Obligations.HeaderBuildCompletes : Prop :=
  ∀ s : State,
    let fields := s.params.logicalName ++ [0x00#8] ++ decEncode s.env.file.size ++ [0x20#8]
    let payload := fields ++ List.replicate (128 - fields.length) s.params.padByte
    Between s .headerSent .none → s.sizeAnswer = .answer → s.env.file.size < 2 ^ s.params.sizeBits →
      exec .pkt128Hdr s = .next { s with
        fsize := s.env.file.size, todo := .hdrSend, env := { s.env with sizeDraws := s.env.sizeDraws.tail } }
      ∧ (fields.length ≤ 128 → ∃ t, execs 5 .pkt128Hdr s = .next t
        ∧ t = { s with
            fsize := s.env.file.size, seq := 0#8, bsel := false, kind := .hdr
            plen := BitVec.ofNat 11 fields.length, pbuf := t.pbuf, crc := crc16 payload 0x0000#16
            pktlen := 133#11, retry := 0, txidx := 0#11, hs := .tx
            env := { s.env with sizeDraws := s.env.sizeDraws.tail } }
        ∧ ∀ a, memByte t.pbuf a = if a < 128 then payload[a]? else memByte s.pbuf a)

/-- R206, R207, R143, R144, R148: the first step of `PKT1024_DATA` is `FileRead`, which moves the cursor past the
chunk it returns. Three internal operations later (R21; log entry 3) a chunk of 1 to 1024 bytes is padded to 1024,
its CRC is taken and the packet is ready with the current `SEQ`. -/
def Obligations.DataBuildCompletes : Prop :=
  ∀ (s : State) (chunk : List Byte),
    let payload := chunk ++ List.replicate (1024 - chunk.length) s.params.padByte
    Between s .dataLoop .none → s.readAnswer = .chunk chunk → chunk ≠ [] →
      exec .pkt1024Data s = .next { s with todo := .dataSend chunk, env := s.env.afterFileRead chunk.length }
      ∧ (s.bsel = true → chunk.length ≤ 1024 → ∃ t, execs 4 .pkt1024Data s = .next t
        ∧ t = { s with
            kind := .data, plen := BitVec.ofNat 11 chunk.length, pbuf := t.pbuf
            crc := crc16 payload 0x0000#16, pktlen := 1029#11, retry := 0, txidx := 0#11, hs := .tx
            env := s.env.afterFileRead chunk.length }
        ∧ ∀ a, memByte t.pbuf a = if a < 1024 then payload[a]? else memByte s.pbuf a)

/-- R206, R209, R151: a read of 0 bytes ends the data loop; one internal operation later (R21; log entry 3) the
`EOT` is ready: `PBUF`, `PLEN`, `CRC`, `BSEL` and `SEQ` are left as they were. R63: a read gives 0 bytes only where
the cursor is at the end of the file. -/
def Obligations.EotBuildCompletes : Prop :=
  ∀ s : State, Between s .dataLoop .none → s.readAnswer = .chunk [] →
    s.env.file.data.length ≤ s.env.file.cursor
    ∧ exec .eot s = .next { s with todo := .eotSend, env := s.env.afterFileRead 0 }
    ∧ execs 2 .eot s = .next { s with
      phase := .eotSent, kind := .eot, pktlen := 1#11, retry := 0, txidx := 0#11, hs := .tx
      env := s.env.afterFileRead 0 }

/-- R210, R211, R147: after the `EOT` was acknowledged `FIN_SEND` enters `FIN_SENT` and selects 128-byte framing;
three internal operations later (R21; log entry 3) the closing header is ready, whatever the payload buffer held. -/
def Obligations.FinBuildCompletes : Prop :=
  ∀ s : State,
    let payload := [0x00#8, 0x30#8, 0x20#8] ++ List.replicate 125 s.params.padByte
    Between s .eotSent .none →
      exec .pkt128Fin s = .next { s with
        phase := .finSent, seq := 0#8, bsel := false, kind := .fin, todo := .finEncode }
      ∧ ∃ t, execs 4 .pkt128Fin s = .next t
        ∧ t = { s with
            phase := .finSent, seq := 0#8, bsel := false, kind := .fin, plen := 3#11, pbuf := t.pbuf
            crc := crc16 payload 0x0000#16, pktlen := 133#11, retry := 0, txidx := 0#11, hs := .tx }
        ∧ ∀ a, memByte t.pbuf a = if a < 128 then payload[a]? else memByte s.pbuf a

/-- R171, R23, R149: each further step of a transmitted form puts the next byte of the unit on the wire; after the
last one the core waits for the response. Nothing else changes, no byte of `PBUF`. -/
def Obligations.SendByteCompletes : Prop :=
  ∀ (i : Instr) (p : Phase) (s : State) (b : Byte), sendPhase i = some p → At s p .tx → s.txidx < s.pktlen →
    s.packetByte s.txidx.toNat = .ok b → s.txAnswer = .accept →
      exec i s = .next { s with
        txidx := s.txidx + 1#11
        hs := if s.txidx.toNat + 1 < s.pktlen.toNat then .tx else .wait
        env := s.env.afterWrite b }

/-- R26, R203, R206, R246, R278: a `TxWrite`, a `FileSize` or a `FileRead` that fails aborts. No byte is put on the
wire and the bytes already written stay; the cursor does not move; no other register changes. That a `FileRead`
which answers `err` adds one to the observer's count of reads is the model's reading (log entry 12, DEDUCED). What
it says of `todo`, the place between two steps, is the model's own (log entry 3, DEDUCED). -/
def Obligations.TransactionErrorAborts : Prop :=
  (∀ (i : Instr) (p : Phase) (s : State) (b : Byte), sendPhase i = some p → At s p .tx → s.txidx < s.pktlen →
    s.packetByte s.txidx.toNat = .ok b → s.txAnswer = .err → s.fclosed = false →
    exec i s = .next { s with
      hs := .idle, todo := .none, fclosed := true, status := .channelOrFileError, phase := .aborted
      env := { s.env with txDraws := s.env.txDraws.tail, file := { s.env.file with isOpen := false } } })
  ∧ (∀ s : State, Between s .headerSent .none → s.sizeAnswer = .err → s.fclosed = false →
    exec .pkt128Hdr s = .next { s with
      fclosed := true, status := .channelOrFileError, phase := .aborted
      env := { s.env with sizeDraws := s.env.sizeDraws.tail, file := { s.env.file with isOpen := false } } })
  ∧ (∀ s : State, Between s .dataLoop .none → s.readAnswer = .err → s.fclosed = false →
    exec .pkt1024Data s = .next { s with
      fclosed := true, status := .channelOrFileError, phase := .aborted
      env := { s.env with
        readDraws := s.env.readDraws.tail, fileReads := s.env.fileReads + 1
        file := { s.env.file with isOpen := false } } })

/-- R243, R143, R146: header fields over 128 bytes and a chunk over 1024 bytes abort with `FRAMING_ERROR` at
`HDR_ENCODE` and at `LOAD_PAYLOAD`, before `PBUF`, `PLEN` or `CRC` is written and before any byte of the packet is
sent. How many steps come before, and the place between them, are the model's reading of R21 (log entry 3, DEDUCED).
-/
def Obligations.TooLongAborts : Prop :=
  (∀ s : State, Between s .headerSent .none → s.sizeAnswer = .answer → s.env.file.size < 2 ^ s.params.sizeBits →
    128 < s.params.logicalName.length + (decEncode s.env.file.size).length + 2 → s.fclosed = false →
    execs 3 .pkt128Hdr s = .next { s with
      fsize := s.env.file.size, seq := 0#8, bsel := false, kind := .hdr
      fclosed := true, status := .framingError, phase := .aborted
      env := { s.env with sizeDraws := s.env.sizeDraws.tail, file := { s.env.file with isOpen := false } } })
  ∧ (∀ (s : State) (chunk : List Byte), Between s .dataLoop .none → s.bsel = true → s.readAnswer = .chunk chunk →
    1024 < chunk.length → s.fclosed = false →
    execs 2 .pkt1024Data s = .next { s with
      kind := .data, fclosed := true, status := .framingError, phase := .aborted
      env := (s.env.afterFileRead chunk.length).fileClosed })

/-- R21, R23, R253: a transaction that the environment holds back leaves the core where it is; one held back for
ever leaves the state as it was. That a wait is a step which answers a next state is the model's choice (log entry
9). That no internal operation is next is said by the model's field `todo` (log entry 3, DEDUCED). -/
def Obligations.HeldTransactionsWait : Prop :=
  (∀ s : State, Between s .headerSent .none →
    (s.sizeAnswer = .hold → exec .pkt128Hdr s = .next { s with
      env := { s.env with sizeDraws := s.env.sizeDraws.tail } })
    ∧ (s.sizeAnswer = .never → exec .pkt128Hdr s = .next s))
  ∧ (∀ s : State, Between s .dataLoop .none →
    (s.readAnswer = .hold → exec .pkt1024Data s = .next { s with
      env := { s.env with readDraws := s.env.readDraws.tail } })
    ∧ (s.readAnswer = .never → exec .pkt1024Data s = .next s))
  ∧ (∀ (i : Instr) (p : Phase) (s : State) (b : Byte), sendPhase i = some p → At s p .tx → s.txidx < s.pktlen →
    s.packetByte s.txidx.toNat = .ok b →
    (s.txAnswer = .hold → exec i s = .next { s with env := { s.env with txDraws := s.env.txDraws.tail } })
    ∧ (s.txAnswer = .never → exec i s = .next s))

/-! ### The received bytes -/

/-- R177: when the gate is open. -/
def Obligations.GateRule : Prop :=
  ∀ s : State, s.gate = true ↔
    s.kind ≠ .eot ∧ ((s.params.extraAckGate = .seqZero ∧ s.seq = 0#8)
      ∨ (s.params.extraAckGate = .firstPacketOnly ∧ s.kind = .hdr))

/-- R172, R175, R183: an `ACK` with the gate open is recorded and the core polls next; `SEQ` is not written. -/
def Obligations.AckGateOpenCompletes : Prop :=
  ∀ s : State, BusyAt s .wait → s.rxAnswer = .byte 0x06#8 → s.gate = true →
    exec .rxAck s = .next { s with
      lastResp := 0x06#8, lastRespValid := true, hs := .probe, env := s.env.afterRead 0x06#8 }

/-- R175, R183: an `ACK` with the gate closed, in every busy phase, takes an `Ack` out of `HANDSHAKE`. R205, R208,
R210, R181: the sequencer's operation on an `Ack` is the next step: in `HEADER_SENT` and `DATA_LOOP` `SEQ` advances
modulo 256, after the opening header 1024-byte framing is selected, after the `EOT` `FIN_SEND` is next, after the
closing header the end of the session is next. R212, R216, R213: that end, after whatever response, closes the file,
sets `SUCCESS` and enters `CLOSED`, in a step of its own. That these are steps of their own is R21's; the place
between them is the model's (log entry 3, DEDUCED). -/
def Obligations.AckGateClosedCompletes : Prop :=
  (∀ s : State, BusyAt s .wait → s.rxAnswer = .byte 0x06#8 → s.gate = false → exec .rxAck s = .next { s with
      lastResp := 0x06#8, lastRespValid := true, hs := .idle, todo := .resp .ack, env := s.env.afterRead 0x06#8 })
  ∧ (∀ s : State, CoreTurn s →
    (Between s .headerSent (.resp .ack) → step s = .next { s with
      seq := s.seq + 1#8, bsel := true, phase := .dataLoop, todo := .none, env := s.env.moveMade })
    ∧ (Between s .dataLoop (.resp .ack) → step s = .next { s with
      seq := s.seq + 1#8, todo := .none, env := s.env.moveMade })
    ∧ (∀ p, p = .eotSent ∨ p = .finSent → Between s p (.resp .ack) → step s = .next { s with
      todo := .none, env := s.env.moveMade }))
  ∧ (∀ s : State, CoreTurn s → Between s .finSent .none → s.fclosed = false → step s = .next { s with
      fclosed := true, status := .success, phase := .closed, env := s.env.moveMade.fileClosed })

/-- R176, R175: the one poll takes a byte, whatever its value, or nothing, and discards it; `LAST_RESP` is not
changed by it; then `HANDSHAKE` returns its `Ack`, on which the sequencer acts next (`AckGateClosedCompletes`). The
place between two of these steps is the model's (log entry 3, DEDUCED). -/
def Obligations.ExtraByteCompletes : Prop :=
  ∀ (s : State) (o : Option Byte), BusyAt s .probe → s.pollAnswer = .got o →
    exec (.rxExtraAny o) s = .next { s with hs := .idle, todo := .resp .ack, env := s.env.afterPoll o }

/-- R178, first half: a `CA` is recorded and the core reads one more byte; in every busy phase. -/
def Obligations.CancelFirstByteCompletes : Prop :=
  ∀ s : State, BusyAt s .wait → s.rxAnswer = .byte 0x18#8 →
    exec .rxCa s = .next { s with
      lastResp := 0x18#8, lastRespValid := true, hs := .ca2, env := s.env.afterRead 0x18#8 }

/-- R178: the second byte, whatever its value, completes the cancel; `LAST_RESP` stays. R244, R205, R208, R210: the
sequencer's operation on a `Cancel`, a step of its own, aborts the session with `CANCELLED`; a cancel that answers
the closing header is a response like any other, and the end of the session (`AckGateClosedCompletes`, last clause)
is next (R212). The place between two of these steps is the model's (log entry 3, DEDUCED). -/
def Obligations.CancelSecondByteCompletes : Prop :=
  (∀ (s : State) (b : Byte), BusyAt s .ca2 → s.rxAnswer = .byte b → exec (.rxCa2Any b) s = .next { s with
      hs := .idle, todo := .resp .cancel, env := s.env.afterRead b })
  ∧ (∀ s : State, CoreTurn s →
    (∀ p, p = .headerSent ∨ p = .dataLoop ∨ p = .eotSent → Between s p (.resp .cancel) → s.fclosed = false →
      step s = .next { s with
        todo := .none, fclosed := true, status := .cancelled, phase := .aborted, env := s.env.moveMade.fileClosed })
    ∧ (Between s .finSent (.resp .cancel) → step s = .next { s with todo := .none, env := s.env.moveMade }))

/-- R180: a `NAK` with a retry left counts one retry and begins to send the unit again; the unit's registers and
`PBUF` are unchanged. -/
def Obligations.NakRetryCompletes : Prop :=
  ∀ s : State, BusyAt s .wait → s.rxAnswer = .byte 0x15#8 → s.kind ≠ .fin → s.retry < s.params.maxRetries →
    exec .rxNak s = .next { s with
      lastResp := 0x15#8, lastRespValid := true, retry := s.retry + 1, txidx := 0#11, hs := .tx
      env := s.env.afterRead 0x15#8 }

/-- R179, R180: a `NAK` with no retry left, or to the closing header, is like any other byte: `HANDSHAKE` returns
it, and the sequencer acts on it next (`OtherResponseCompletes`, last clause). The place between two of these steps
is the model's (log entry 3, DEDUCED). -/
def Obligations.NakFinalCompletes : Prop :=
  ∀ s : State, BusyAt s .wait → s.rxAnswer = .byte 0x15#8 → (s.kind = .fin ∨ s.params.maxRetries ≤ s.retry) →
    exec .rxNak s = .next { s with
      lastResp := 0x15#8, lastRespValid := true, hs := .idle, todo := .resp (.other 0x15#8)
      env := s.env.afterRead 0x15#8 }

/-- R179: any other byte is recorded and returned by `HANDSHAKE`. R245, R205, R208, R210, R212: the sequencer's
operation on it, a step of its own and the same for a `NAK`, aborts the session with `UNEXPECTED_RESPONSE`; after
the closing header the end of the session (`AckGateClosedCompletes`, last clause) is next. The place between two of
these steps is the model's (log entry 3, DEDUCED). -/
def Obligations.OtherResponseCompletes : Prop :=
  (∀ (s : State) (b : Byte), (Instr.rxOther b).wellFormed = true → BusyAt s .wait → s.rxAnswer = .byte b →
    exec (.rxOther b) s = .next { s with
      lastResp := b, lastRespValid := true, hs := .idle, todo := .resp (.other b), env := s.env.afterRead b })
  ∧ (∀ (s : State) (b : Byte), CoreTurn s →
    (∀ p, p = .headerSent ∨ p = .dataLoop ∨ p = .eotSent → Between s p (.resp (.other b)) → s.fclosed = false →
      step s = .next { s with
        todo := .none, fclosed := true, status := .unexpectedResponse, phase := .aborted
        env := s.env.moveMade.fileClosed })
    ∧ (Between s .finSent (.resp (.other b)) → step s = .next { s with todo := .none, env := s.env.moveMade }))

/-- R172, R176, R178, R246, R247, R250: in every busy phase, `FIN_SENT` included, a failed read or poll, or a read
that times out, aborts; no byte leaves the RX queue and `LAST_RESP` stays. R27: a read times out only with
`TIMEOUT_ENABLED`. That `todo`, the place between two steps, is emptied is the model's own (log entry 3, DEDUCED).
-/
def Obligations.FailedReadAborts : Prop :=
  (∀ s : State, CoreTurn s → s.fclosed = false →
    (∀ h, h = .wait ∨ h = .ca2 → BusyAt s h → s.rxAnswer = .err → step s = .next { s with
      hs := .idle, todo := .none, fclosed := true, status := .channelOrFileError, phase := .aborted
      env := { s.env.moveMade.fileClosed with rxDraws := s.env.rxDraws.tail } })
    ∧ (∀ h, h = .wait ∨ h = .ca2 → BusyAt s h → s.rxAnswer = .timeout → step s = .next { s with
      hs := .idle, todo := .none, fclosed := true, status := .timeout, phase := .aborted
      env := { s.env.moveMade.fileClosed with rxDraws := s.env.rxDraws.tail } })
    ∧ (BusyAt s .probe → s.pollAnswer = .err → step s = .next { s with
      hs := .idle, todo := .none, fclosed := true, status := .channelOrFileError, phase := .aborted
      env := { s.env.moveMade.fileClosed with pollDraws := s.env.pollDraws.tail } }))
  ∧ (∀ s : State, s.rxAnswer = .timeout → s.params.timeoutEnabled = true)

/-! ### The host command -/

/-- R201: `HOST_START` outside a session begins one: the listed fields are set, `CRC`, `PBUF`, `PLEN`, `PKTLEN`,
`FSIZE` and `LAST_RESP` keep what they held. The conditions of the launch are those of R10 and the four premises of
R272. That an environment which admits stale bytes need not meet `RxQueueEmpty` is the model's choice (log entry 8,
DESIGN CHOICE), made for R276's sake. That `todo`, the place between two steps, is emptied is the model's own (log
entry 3, DEDUCED). -/
def Obligations.HostStartCompletes : Prop :=
  ∀ s : State, s.phase = .start ∨ s.phase = .closed ∨ s.phase = .aborted → s.hs.isReserved = false →
    s.status ≠ .reserved7 → s.env.sched.head? = some .hostStart → s.params.wellFormed = true →
    s.env.channelReady = true → s.env.crcModeRequested = true →
    s.rxQueueEmpty = true ∨ s.env.staleRxAdmitted = true → s.fileAtZero = true →
      exec .hostStart s = .next { s with
        status := .none, lastRespValid := false, fclosed := false, seq := 0#8, bsel := false, retry := 0
        hs := .idle, txidx := 0#11, phase := .headerSent, todo := .none, env := s.env.moveMade }

/-- R202: a `HostStart` while `BUSY` = 1 changes no state of the core: only the schedule's move is made. -/
def Obligations.HostStartIgnoredWhileBusy : Prop :=
  ∀ s : State, s.phase.isBusy = true → s.hs.isReserved = false → s.status ≠ .reserved7 →
    s.env.sched.head? = some .hostStart →
      exec .hostStart s = .next { s with env := s.env.moveMade }

/-- R10, R272, spec/93_implementation_defined.md O3: a launch with ill-formed parameters or with one of the four
premises broken is refused by name. The flag that waives `RxQueueEmpty` is the model's choice (log entry 8, DESIGN
CHOICE). -/
def Obligations.BadLaunchRefused : Prop :=
  ∀ s : State, s.reservedCode = none → s.phase.isBusy = false → s.env.sched.head? = some .hostStart →
    (s.params.wellFormed = false → exec .hostStart s = .refused .illFormedParams)
    ∧ (s.params.wellFormed = true →
        (s.env.channelReady = false ∨ s.env.crcModeRequested = false ∨ s.fileAtZero = false
          ∨ (s.rxQueueEmpty = false ∧ s.env.staleRxAdmitted = false)) →
        exec .hostStart s = .refused .launchPremiseBroken)

/-- The moves of the receiver and the host (R24, R272, R273): a received byte joins the RX queue; the host's four
duties make the launch premises true; while `BUSY` = 1 a host that uses the channel or the file is refused
(spec/93_implementation_defined.md O2). No register of the core changes. That one move does all four duties, and that
these moves are taken in every state, reserved codes included, is the model's choice (log entry 13, DESIGN CHOICE). -/
def Obligations.EnvironmentMoves : Prop :=
  (∀ (s : State) (b : Byte), s.env.sched.head? = some (.receiver b) →
    step s = .next { s with env := { s.env.moveMade with rxQueue := s.env.rxQueue ++ [b] } })
  ∧ (∀ (s : State) (n : Nat) (d : List Byte), s.env.sched.head? = some (.handOver n d) →
    (s.phase.isBusy = true → step s = .refused .hostBreaksOwnership)
    ∧ (s.phase.isBusy = false → n < 2 ^ s.params.sizeBits → ∃ t, step s = .next t ∧ LaunchPremises t
        ∧ t = { s with env := t.env } ∧ t.env.wire = s.env.wire ∧ t.env.file.data = d))
  ∧ (∀ s : State, s.env.sched.head? = some .drain →
    (s.phase.isBusy = true → step s = .refused .hostBreaksOwnership)
    ∧ (s.phase.isBusy = false → step s = .next { s with env := { s.env.moveMade with rxQueue := [] } }))

/-! ### Where instructions run, and where the model stops -/

/-- An instruction offered away from its control point, or without its offer, is refused by name, and only there
(R21, R29; log entry 11). -/
def Obligations.OffControlPointRefused : Prop :=
  ∀ (i : Instr) (s : State), s.reservedCode = none →
    (exec i s = .refused .notAtControlPoint ↔ ¬ Enabled i s)

/-- R30, R31, R40, R241: a register that holds a reserved code makes every instruction, and every step of the core,
fault by name. -/
def Obligations.ReservedCodesFault : Prop :=
  ∀ (s : State) (f : Fault),
    (s.phase = .reserved7 ∧ f = .reservedPhase)
      ∨ (s.phase ≠ .reserved7 ∧ s.hs.isReserved = true ∧ f = .reservedHs)
      ∨ (s.phase ≠ .reserved7 ∧ s.hs.isReserved = false ∧ s.status = .reserved7 ∧ f = .reservedStatus) →
    (∀ i, exec i s = .fault f) ∧ (CoreTurn s → step s = .fault f)

/-! ### Whole-machine rules -/

/-- R200: `PHASE` moves only along the rows of its table, each with its event; a reset apart. The sequencer's
operation on a response, `FIN_SEND` and `finish` are steps of their own (R21; log entry 3, DEDUCED): a response is
pending only because `HANDSHAKE` has just returned it (R174), each internal operation follows the one its pseudocode
has before it, and `EOT_SENT` and `FIN_SENT` come to rest only by the operation on a response. The invariant rules
out a state in which the operation of another phase is pending. -/
def Obligations.PhaseTable : Prop :=
  ∀ s t : State, CoreInv s → step s = .next t → s.env.sched.head? ≠ some .reset →
    (t.phase = s.phase ∨ PhaseMove s t) ∧ (t.todo = s.todo ∨ TodoMove s t) ∧ AfterLastResponse s t

/-- R184: `HS` moves only along the rows of its table, each with its event; a reset apart. R21: the events that a
row of R184 names inside one operation of the sequencer are told by the model's field `todo`: `SEND` begins in the
step that runs `BUILD_PACKET` or `EOT_ENCODE`, or that reads a `NAK` which is retried, and a response that
`HANDSHAKE` returns is left for the sequencer's next step. That grouping into steps is the model's (log entry 3,
DEDUCED). -/
def Obligations.HandshakeTable : Prop :=
  ∀ s t : State, CoreInv s → step s = .next t → s.env.sched.head? ≠ some .reset → t.hs = s.hs ∨ HsMove s t

/-- Every step keeps the invariant of the core: the buffer's canonical form, no reserved code, the registers fit the
control point, each ending has its record (R30, R31, R36 to R41, R43, R204 to R213, R240). What it says of the
places between two internal operations is the model's (log entry 3, DEDUCED). -/
def Obligations.CoreInvariantKept : Prop := ∀ s t : State, CoreInv s → step s = .next t → CoreInv t

/-- The invariant holds after reset, with every parameter set and in every environment (R270). The values the model
chose for the registers without a reset value (log entry 1) matter only for the bound on `FSIZE`, `PLEN`. That no
internal operation is next there is the model's too (log entry 3, DEDUCED). -/
def Obligations.CoreInvariantAtReset : Prop := ∀ (p : Params) (e : Env), CoreInv (State.resetWith p e)

/-- From a state that keeps the invariant the machine never faults, and it is refused only for what the host or the
file does outside the spec (R241, R252; spec/93_implementation_defined.md I9, O2, O3). -/
def Obligations.NoFaultFromInvariant : Prop :=
  ∀ s : State, CoreInv s →
    (∀ f, step s ≠ .fault f)
    ∧ (∀ r, step s = .refused r →
        (s.env.sched.head? = some .hostStart ∧ (r = .illFormedParams ∨ r = .launchPremiseBroken))
        ∨ (r = .hostBreaksOwnership ∧ s.phase.isBusy = true)
        ∨ (r = .fileTooLong ∧ s.phase = .headerSent ∧ s.hs = .idle ∧ 2 ^ s.params.sizeBits ≤ s.env.file.size))

/-- R45: no step writes a parameter. The second clause is the model's: no step puts the premise `RxQueueEmpty` in
force or waives it (log entry 8, DESIGN CHOICE). -/
def Obligations.ParametersConstant : Prop :=
  ∀ s t : State, step s = .next t →
    t.params = s.params ∧ t.env.staleRxAdmitted = s.env.staleRxAdmitted

/-- R71, R14, R21, R62: send and wait alternate, and one step makes at most one transaction, each at its own control
point (`AtMostOneTransaction`); only where that transaction fails or times out does the step also close the file,
because R242 puts the abort at the step that detects the cause. A byte is written only in `HS_TX`, and it is the
unit's next byte; a byte is read only in `HS_WAIT`, `HS_CA2` or `HS_PROBE`, the oldest first; the file is read only
between two units, and the cursor moves by exactly what was read; sending begins only where a unit was built or a
`NAK` is retried. That a read which fails counts as a read is the model's reading (log entry 12, DEDUCED), and so is
the place between two internal operations (log entry 3, DEDUCED). -/
def Obligations.SendAndWaitAlternate : Prop :=
  ∀ s t : State, CoreTurn s → step s = .next t →
    (t.env.wire = s.env.wire
      ∨ (s.hs = .tx ∧ ∃ b, s.packetByte s.txidx.toNat = .ok b ∧ t.env.wire = s.env.wire ++ [b]))
    ∧ ((t.env.rxQueue = s.env.rxQueue ∧ t.env.rxTaken = s.env.rxTaken)
      ∨ ((s.hs = .wait ∨ s.hs = .ca2 ∨ s.hs = .probe)
          ∧ ∃ b, s.env.rxQueue = b :: t.env.rxQueue ∧ t.env.rxTaken = s.env.rxTaken ++ [b]))
    ∧ ((t.env.fileReads = s.env.fileReads ∧ t.env.file.cursor = s.env.file.cursor)
      ∨ (s.phase = .dataLoop ∧ s.hs = .idle ∧ s.todo = .none ∧ t.env.fileReads = s.env.fileReads + 1
          ∧ ((∃ c, s.readAnswer = .chunk c ∧ t.env.file.cursor = s.env.file.cursor + c.length)
            ∨ (s.readAnswer = .err ∧ t.env.file.cursor = s.env.file.cursor))))
    ∧ (s.hs ≠ .tx → t.hs = .tx →
        (s.hs = .idle ∧ (s.todo = .buildPacket ∨ s.todo = .eotSend)) ∨ (s.hs = .wait ∧ s.rxAnswer = .byte 0x15#8))
    ∧ t.env.file.data = s.env.file.data
    ∧ ∃ e, AtMostOneTransaction s s.env.moveMade e
        ∧ (t.env = e
          ∨ (s.phase.isBusy = true ∧ (TransactionError s ∨ ((s.hs = .wait ∨ s.hs = .ca2) ∧ s.rxAnswer = .timeout))
              ∧ t.phase = .aborted ∧ s.fclosed = false ∧ t.env = e.fileClosed))

/-- R183: `LAST_RESP` is written by `AWAIT` with the response it reads, and by nothing else; a reset apart. -/
def Obligations.LastRespWrittenByAwait : Prop :=
  (∀ s t : State, step s = .next t → s.env.sched.head? ≠ some .reset → t.lastResp ≠ s.lastResp →
    s.phase.isBusy = true ∧ s.hs = .wait ∧ s.rxAnswer = .byte t.lastResp)
  ∧ (∀ (s t : State) (b : Byte), CoreTurn s → s.phase.isBusy = true → s.hs = .wait → s.rxAnswer = .byte b →
    step s = .next t → t.lastResp = b ∧ t.lastRespValid = true)

/-- R32, R181, R152: `SEQ` changes only by one modulo 256, in the sequencer's operation on an `Ack` to the opening
header or to a data packet, or to 0 at the start of a session or of a header; a reset apart. That these operations
are steps of their own is R21's; the place before each is the model's (log entry 3, DEDUCED). -/
def Obligations.SequenceRule : Prop :=
  ∀ s t : State, step s = .next t → s.env.sched.head? ≠ some .reset → t.seq ≠ s.seq →
    (t.seq = s.seq + 1#8 ∧ (s.phase = .headerSent ∨ s.phase = .dataLoop) ∧ s.hs = .idle ∧ s.todo = .resp .ack)
    ∨ (t.seq = 0#8 ∧ (s.env.sched.head? = some .hostStart
        ∨ (s.hs = .idle ∧ (s.todo = .hdrSend ∨ (s.phase = .eotSent ∧ s.todo = .none)))))

/-- R242, R248: the one way into `ABORTED`. The file is closed, `HS` is idle, a status says why; no byte is written
at the step; `TXIDX`, `RETRY`, `CRC`, `PBUF`, `PLEN`, `PKTLEN`, `SEQ`, `BSEL` and `FSIZE` keep their values, and so
does `KIND` but where the loading of a chunk raised `FRAMING_ERROR`. `LAST_RESP` and `LAST_RESP_VALID` keep the last
response read; the step takes no byte from the RX queue, so the queue has lost exactly the bytes read before it; the
file cursor stays where the last successful read left it. That `todo`, the place between two steps, is emptied is
the model's own (log entry 3, DEDUCED). -/
def Obligations.AbortEntry : Prop :=
  ∀ s t : State, step s = .next t → s.phase ≠ .aborted → t.phase = .aborted →
    t.hs = .idle ∧ t.todo = .none ∧ t.fclosed = true ∧ (s.fclosed = false → t.env.file.isOpen = false)
    ∧ t.status ≠ .none ∧ t.status ≠ .success
    ∧ t.env.wire = s.env.wire ∧ t.txidx = s.txidx ∧ t.retry = s.retry ∧ t.crc = s.crc ∧ t.pbuf = s.pbuf
    ∧ t.plen = s.plen ∧ t.pktlen = s.pktlen ∧ t.seq = s.seq ∧ t.bsel = s.bsel ∧ t.fsize = s.fsize
    ∧ (t.status ≠ .framingError → t.kind = s.kind)
    ∧ t.lastResp = s.lastResp ∧ t.lastRespValid = s.lastRespValid
    ∧ t.env.rxQueue = s.env.rxQueue ∧ t.env.rxTaken = s.env.rxTaken
    ∧ t.env.file.cursor = s.env.file.cursor ∧ t.env.file.data = s.env.file.data

/-- R217, R270: outside a session the core makes no transaction and changes no state, for any number of steps. That
such a wait is a step, and answers the same state, is the model's choice (log entry 9, DESIGN CHOICE); the rules give
no such step. -/
def Obligations.OutsideSessionIdle : Prop :=
  ∀ (n : Nat) (s : State), s.phase.isBusy = false → s.reservedCode = none → s.env.sched = [] →
    stepsFrom n s = .next s

/-- R253: with nothing that could answer it the core waits for ever, `BUSY` = 1, at each of the points the rule
names. That a wait is a step which answers the same state is the model's choice (log entry 9). That no internal
operation is next at the last two is said by the model's field `todo` (log entry 3, DEDUCED). -/
def Obligations.HangsForever : Prop :=
  ∀ (n : Nat) (s : State), s.env.sched = [] →
    (BusyAt s .wait ∧ s.rxAnswer = .wait)
      ∨ (BusyAt s .ca2 ∧ s.rxAnswer = .wait)
      ∨ (BusyAt s .tx ∧ s.txAnswer = .never ∧ s.txidx < s.pktlen ∧ ∃ b, s.packetByte s.txidx.toNat = .ok b)
      ∨ (Between s .headerSent .none ∧ s.sizeAnswer = .never)
      ∨ (Between s .dataLoop .none ∧ s.readAnswer = .never) →
    stepsFrom n s = .next s ∧ s.busy = true

/-- R243, R63: with well-formed parameters and a file source that keeps its interface, no step raises
`FRAMING_ERROR`, and the file source still keeps its interface after it: so none is ever raised. The chunk between
`FileRead` and `LOAD_PAYLOAD` is held in the model's field `todo` (log entry 3, DEDUCED). -/
def Obligations.FramingErrorUnreachable : Prop :=
  ∀ s t : State, CoreInv s → s.params.wellFormed = true → FileKeepsBound s → step s = .next t →
    (t.status = .framingError → s.status = .framingError) ∧ FileKeepsBound t

/-! ### Runs of many steps -/

/-- R171, R149: `SEND` writes the whole unit, first byte first, one byte a step, and then waits for the response; no
other state changes. -/
def Obligations.SendWritesWholeUnit : Prop :=
  ∀ (s : State) (bytes : List Byte), BusyAt s .tx → s.pbuf.wf = true → s.env.sched = [] →
    s.unitBytes = some bytes → s.txidx = 0#11 → s.pktlen.toNat = bytes.length →
    (∀ d ∈ s.env.txDraws.take bytes.length, d = .accept) →
      stepsFrom bytes.length s = .next { s with
        txidx := s.pktlen, hs := .wait
        env := { s.env with wire := s.env.wire ++ bytes, txDraws := s.env.txDraws.drop bytes.length } }

/-- R152, R180: after a `NAK` with a retry left the same bytes are written once more. The conclusion counts steps:
R171 gives one for each byte; that the one before them reads the `NAK`, classifies it, decides the retry and begins
`SEND` is the model's grouping (R21; log entry 3, DEDUCED). -/
def Obligations.RetrySendsSameBytes : Prop :=
  ∀ (s : State) (bytes : List Byte), CoreInv s → s.phase.isBusy = true → s.hs = .wait → s.env.sched = [] →
    s.rxAnswer = .byte 0x15#8 → s.kind ≠ .fin → s.retry < s.params.maxRetries → s.unitBytes = some bytes →
    (∀ d ∈ s.env.txDraws.take bytes.length, d = .accept) →
      stepsFrom (1 + bytes.length) s = .next { s with
        lastResp := 0x15#8, lastRespValid := true, retry := s.retry + 1
        env := { s.env.afterRead 0x15#8 with
          wire := s.env.wire ++ bytes, txDraws := s.env.txDraws.drop bytes.length } }

/-- R206 to R208, R218: one acknowledged data packet, the gate closed: 1029 bytes on the wire with the current
`SEQ`, then `SEQ` + 1, and the core is back at the next read. The conclusion counts steps: R171 gives one for each
byte; that four come before them and two after is the model's grouping (R21; log entry 3, DEDUCED). -/
def Obligations.DataPacketCycle : Prop :=
  ∀ (s : State) (chunk : List Byte), CoreInv s → s.phase = .dataLoop → s.hs = .idle → s.todo = .none →
    s.env.sched = [] → s.readAnswer = .chunk chunk → chunk ≠ [] → chunk.length ≤ 1024 →
    (s.params.extraAckGate = .seqZero → s.seq ≠ 0#8) → s.rxAnswer = .byte 0x06#8 →
    (∀ d ∈ s.env.txDraws.take 1029, d = .accept) →
      ∃ t, stepsFrom (4 + 1029 + 2) s = .next t
        ∧ t.phase = .dataLoop ∧ t.hs = .idle ∧ t.todo = .none ∧ t.seq = s.seq + 1#8 ∧ t.lastResp = 0x06#8
        ∧ t.env.wire = s.env.wire
            ++ encodePacket 0x02#8 ⟨s.seq, chunk ++ List.replicate (1024 - chunk.length) s.params.padByte⟩
        ∧ t.env.rxTaken = s.env.rxTaken ++ [0x06#8] ∧ t.env.rxQueue = s.env.rxQueue.tail
        ∧ t.env.file = { s.env.file with cursor := s.env.file.cursor + chunk.length }
        ∧ t.env.fileReads = s.env.fileReads + 1

/-- R219, R218, R215: a whole session with a regular file and every response `ACK`. The receiver's bytes arrive after
`HostStart`, no extra byte is present at a poll. Every byte on the wire is said: the opening header, the data packets
numbered 1, 2, ... modulo 256, the `EOT`, the closing header. -/
def Obligations.AcknowledgedSession : Prop :=
  ∀ s : State,
    let data := s.env.file.data
    let n := (data.length + 1023) / 1024
    let pad := s.params.padByte
    let header := s.params.logicalName ++ [0x00#8] ++ decEncode data.length ++ [0x20#8]
    CoreInv s → s.phase.isBusy = false → s.params.wellFormed = true → LaunchPremises s →
    s.env.file.size = data.length → s.env.sched = .hostStart :: List.replicate (n + 3) (.receiver 0x06#8) →
    s.env.txDraws = [] → s.env.rxDraws = [] → s.env.sizeDraws = [] → s.env.readDraws = [] →
    n + 2 ≤ s.env.pollDraws.length → (∀ d ∈ s.env.pollDraws, d = .absent) →
      ∃ k t, stepsFrom k s = .next t
        ∧ t.phase = .closed ∧ t.status = .success ∧ t.fclosed = true ∧ t.env.file.isOpen = false
        ∧ t.lastResp = 0x06#8 ∧ t.lastRespValid = true
        ∧ t.env.wire = s.env.wire
            ++ encodePacket 0x01#8 ⟨0x00#8, header ++ List.replicate (128 - header.length) pad⟩
            ++ (List.range n).flatMap (fun j => encodePacket 0x02#8
                ⟨BitVec.ofNat 8 (j + 1), padded pad 1024 ((data.drop (1024 * j)).take 1024)⟩)
            ++ [0x04#8]
            ++ encodePacket 0x01#8 ⟨0x00#8, [0x00#8, 0x30#8, 0x20#8] ++ List.replicate 125 pad⟩
        ∧ t.env.wire.length = s.env.wire.length + (133 + 1029 * n + 1 + 133)
        ∧ t.env.fileReads = s.env.fileReads + (n + 1)
        ∧ t.env.rxTaken = s.env.rxTaken ++ List.replicate (n + 3) 0x06#8

/-- R201, R49, R34: what `CRC`, `PBUF`, `PLEN`, `PKTLEN`, `FSIZE`, `KIND` and an invalid `LAST_RESP` hold outside a
session is never read: two machines that differ only there cannot be told apart, whatever the schedule and the draws,
for any number of steps. So no value the model chose for a register without a reset value (log entry 1) shows. -/
def Obligations.StaleRegistersNeverRead : Prop :=
  ∀ (n : Nat) (s t : State), s.phase.isBusy = false →
    t = { s with
      crc := t.crc, pbuf := t.pbuf, plen := t.plen, pktlen := t.pktlen, fsize := t.fsize, kind := t.kind
      lastResp := t.lastResp } →
    (s.lastRespValid = true → t.lastResp = s.lastResp) →
      SameOutcome (stepsFrom n s) (stepsFrom n t)
end

