-- ==== Sys2Proof/Laws/State.lean ====
section
/-!
SUPPORT. One lemma for each field under each update of the state, so that no later proof unfolds a record update.
-/

namespace Sys2Proof.Machine

variable (s : State)

/-! ### `txAnswered` -/

@[simp] theorem txAnswered_phase : s.txAnswered.phase = s.phase := rfl
@[simp] theorem txAnswered_hs : s.txAnswered.hs = s.hs := rfl
@[simp] theorem txAnswered_txidx : s.txAnswered.txidx = s.txidx := rfl
@[simp] theorem txAnswered_seq : s.txAnswered.seq = s.seq := rfl
@[simp] theorem txAnswered_bsel : s.txAnswered.bsel = s.bsel := rfl
@[simp] theorem txAnswered_kind : s.txAnswered.kind = s.kind := rfl
@[simp] theorem txAnswered_crc : s.txAnswered.crc = s.crc := rfl
@[simp] theorem txAnswered_pbuf : s.txAnswered.pbuf = s.pbuf := rfl
@[simp] theorem txAnswered_plen : s.txAnswered.plen = s.plen := rfl
@[simp] theorem txAnswered_pktlen : s.txAnswered.pktlen = s.pktlen := rfl
@[simp] theorem txAnswered_fsize : s.txAnswered.fsize = s.fsize := rfl
@[simp] theorem txAnswered_retry : s.txAnswered.retry = s.retry := rfl
@[simp] theorem txAnswered_status : s.txAnswered.status = s.status := rfl
@[simp] theorem txAnswered_lastResp : s.txAnswered.lastResp = s.lastResp := rfl
@[simp] theorem txAnswered_lastRespValid : s.txAnswered.lastRespValid = s.lastRespValid := rfl
@[simp] theorem txAnswered_fclosed : s.txAnswered.fclosed = s.fclosed := rfl
@[simp] theorem txAnswered_todo : s.txAnswered.todo = s.todo := rfl
@[simp] theorem txAnswered_params : s.txAnswered.params = s.params := rfl
@[simp] theorem txAnswered_env : s.txAnswered.env = { s.env with txDraws := s.env.txDraws.tail } := rfl

/-! ### `txWritten` -/

@[simp] theorem txWritten_phase (b : Byte) : (s.txWritten b).phase = s.phase := rfl
@[simp] theorem txWritten_hs (b : Byte) : (s.txWritten b).hs = s.hs := rfl
@[simp] theorem txWritten_txidx (b : Byte) : (s.txWritten b).txidx = s.txidx := rfl
@[simp] theorem txWritten_seq (b : Byte) : (s.txWritten b).seq = s.seq := rfl
@[simp] theorem txWritten_bsel (b : Byte) : (s.txWritten b).bsel = s.bsel := rfl
@[simp] theorem txWritten_kind (b : Byte) : (s.txWritten b).kind = s.kind := rfl
@[simp] theorem txWritten_crc (b : Byte) : (s.txWritten b).crc = s.crc := rfl
@[simp] theorem txWritten_pbuf (b : Byte) : (s.txWritten b).pbuf = s.pbuf := rfl
@[simp] theorem txWritten_plen (b : Byte) : (s.txWritten b).plen = s.plen := rfl
@[simp] theorem txWritten_pktlen (b : Byte) : (s.txWritten b).pktlen = s.pktlen := rfl
@[simp] theorem txWritten_fsize (b : Byte) : (s.txWritten b).fsize = s.fsize := rfl
@[simp] theorem txWritten_retry (b : Byte) : (s.txWritten b).retry = s.retry := rfl
@[simp] theorem txWritten_status (b : Byte) : (s.txWritten b).status = s.status := rfl
@[simp] theorem txWritten_lastResp (b : Byte) : (s.txWritten b).lastResp = s.lastResp := rfl
@[simp] theorem txWritten_lastRespValid (b : Byte) : (s.txWritten b).lastRespValid = s.lastRespValid := rfl
@[simp] theorem txWritten_fclosed (b : Byte) : (s.txWritten b).fclosed = s.fclosed := rfl
@[simp] theorem txWritten_todo (b : Byte) : (s.txWritten b).todo = s.todo := rfl
@[simp] theorem txWritten_params (b : Byte) : (s.txWritten b).params = s.params := rfl
@[simp] theorem txWritten_env (b : Byte) :
    (s.txWritten b).env = { s.env with txDraws := s.env.txDraws.tail, wire := s.env.wire ++ [b] } := rfl

/-! ### `rxFailed` -/

@[simp] theorem rxFailed_phase : s.rxFailed.phase = s.phase := rfl
@[simp] theorem rxFailed_hs : s.rxFailed.hs = s.hs := rfl
@[simp] theorem rxFailed_txidx : s.rxFailed.txidx = s.txidx := rfl
@[simp] theorem rxFailed_seq : s.rxFailed.seq = s.seq := rfl
@[simp] theorem rxFailed_bsel : s.rxFailed.bsel = s.bsel := rfl
@[simp] theorem rxFailed_kind : s.rxFailed.kind = s.kind := rfl
@[simp] theorem rxFailed_crc : s.rxFailed.crc = s.crc := rfl
@[simp] theorem rxFailed_pbuf : s.rxFailed.pbuf = s.pbuf := rfl
@[simp] theorem rxFailed_plen : s.rxFailed.plen = s.plen := rfl
@[simp] theorem rxFailed_pktlen : s.rxFailed.pktlen = s.pktlen := rfl
@[simp] theorem rxFailed_fsize : s.rxFailed.fsize = s.fsize := rfl
@[simp] theorem rxFailed_retry : s.rxFailed.retry = s.retry := rfl
@[simp] theorem rxFailed_status : s.rxFailed.status = s.status := rfl
@[simp] theorem rxFailed_lastResp : s.rxFailed.lastResp = s.lastResp := rfl
@[simp] theorem rxFailed_lastRespValid : s.rxFailed.lastRespValid = s.lastRespValid := rfl
@[simp] theorem rxFailed_fclosed : s.rxFailed.fclosed = s.fclosed := rfl
@[simp] theorem rxFailed_todo : s.rxFailed.todo = s.todo := rfl
@[simp] theorem rxFailed_params : s.rxFailed.params = s.params := rfl
@[simp] theorem rxFailed_env : s.rxFailed.env = { s.env with rxDraws := s.env.rxDraws.tail } := rfl

/-! ### `rxTook` -/

@[simp] theorem rxTook_phase (b : Byte) : (s.rxTook b).phase = s.phase := rfl
@[simp] theorem rxTook_hs (b : Byte) : (s.rxTook b).hs = s.hs := rfl
@[simp] theorem rxTook_txidx (b : Byte) : (s.rxTook b).txidx = s.txidx := rfl
@[simp] theorem rxTook_seq (b : Byte) : (s.rxTook b).seq = s.seq := rfl
@[simp] theorem rxTook_bsel (b : Byte) : (s.rxTook b).bsel = s.bsel := rfl
@[simp] theorem rxTook_kind (b : Byte) : (s.rxTook b).kind = s.kind := rfl
@[simp] theorem rxTook_crc (b : Byte) : (s.rxTook b).crc = s.crc := rfl
@[simp] theorem rxTook_pbuf (b : Byte) : (s.rxTook b).pbuf = s.pbuf := rfl
@[simp] theorem rxTook_plen (b : Byte) : (s.rxTook b).plen = s.plen := rfl
@[simp] theorem rxTook_pktlen (b : Byte) : (s.rxTook b).pktlen = s.pktlen := rfl
@[simp] theorem rxTook_fsize (b : Byte) : (s.rxTook b).fsize = s.fsize := rfl
@[simp] theorem rxTook_retry (b : Byte) : (s.rxTook b).retry = s.retry := rfl
@[simp] theorem rxTook_status (b : Byte) : (s.rxTook b).status = s.status := rfl
@[simp] theorem rxTook_lastResp (b : Byte) : (s.rxTook b).lastResp = s.lastResp := rfl
@[simp] theorem rxTook_lastRespValid (b : Byte) : (s.rxTook b).lastRespValid = s.lastRespValid := rfl
@[simp] theorem rxTook_fclosed (b : Byte) : (s.rxTook b).fclosed = s.fclosed := rfl
@[simp] theorem rxTook_todo (b : Byte) : (s.rxTook b).todo = s.todo := rfl
@[simp] theorem rxTook_params (b : Byte) : (s.rxTook b).params = s.params := rfl
@[simp] theorem rxTook_env (b : Byte) :
    (s.rxTook b).env = { s.env with rxDraws := s.env.rxDraws.tail, rxQueue := s.env.rxQueue.tail, rxTaken := s.env.rxTaken ++ [b] } := rfl

/-! ### `pollFailed` -/

@[simp] theorem pollFailed_phase : s.pollFailed.phase = s.phase := rfl
@[simp] theorem pollFailed_hs : s.pollFailed.hs = s.hs := rfl
@[simp] theorem pollFailed_txidx : s.pollFailed.txidx = s.txidx := rfl
@[simp] theorem pollFailed_seq : s.pollFailed.seq = s.seq := rfl
@[simp] theorem pollFailed_bsel : s.pollFailed.bsel = s.bsel := rfl
@[simp] theorem pollFailed_kind : s.pollFailed.kind = s.kind := rfl
@[simp] theorem pollFailed_crc : s.pollFailed.crc = s.crc := rfl
@[simp] theorem pollFailed_pbuf : s.pollFailed.pbuf = s.pbuf := rfl
@[simp] theorem pollFailed_plen : s.pollFailed.plen = s.plen := rfl
@[simp] theorem pollFailed_pktlen : s.pollFailed.pktlen = s.pktlen := rfl
@[simp] theorem pollFailed_fsize : s.pollFailed.fsize = s.fsize := rfl
@[simp] theorem pollFailed_retry : s.pollFailed.retry = s.retry := rfl
@[simp] theorem pollFailed_status : s.pollFailed.status = s.status := rfl
@[simp] theorem pollFailed_lastResp : s.pollFailed.lastResp = s.lastResp := rfl
@[simp] theorem pollFailed_lastRespValid : s.pollFailed.lastRespValid = s.lastRespValid := rfl
@[simp] theorem pollFailed_fclosed : s.pollFailed.fclosed = s.fclosed := rfl
@[simp] theorem pollFailed_todo : s.pollFailed.todo = s.todo := rfl
@[simp] theorem pollFailed_params : s.pollFailed.params = s.params := rfl
@[simp] theorem pollFailed_env : s.pollFailed.env = { s.env with pollDraws := s.env.pollDraws.tail } := rfl

/-! ### `pollTook` -/

@[simp] theorem pollTook_phase (o : Option Byte) : (s.pollTook o).phase = s.phase := by cases o <;> rfl
@[simp] theorem pollTook_hs (o : Option Byte) : (s.pollTook o).hs = s.hs := by cases o <;> rfl
@[simp] theorem pollTook_txidx (o : Option Byte) : (s.pollTook o).txidx = s.txidx := by cases o <;> rfl
@[simp] theorem pollTook_seq (o : Option Byte) : (s.pollTook o).seq = s.seq := by cases o <;> rfl
@[simp] theorem pollTook_bsel (o : Option Byte) : (s.pollTook o).bsel = s.bsel := by cases o <;> rfl
@[simp] theorem pollTook_kind (o : Option Byte) : (s.pollTook o).kind = s.kind := by cases o <;> rfl
@[simp] theorem pollTook_crc (o : Option Byte) : (s.pollTook o).crc = s.crc := by cases o <;> rfl
@[simp] theorem pollTook_pbuf (o : Option Byte) : (s.pollTook o).pbuf = s.pbuf := by cases o <;> rfl
@[simp] theorem pollTook_plen (o : Option Byte) : (s.pollTook o).plen = s.plen := by cases o <;> rfl
@[simp] theorem pollTook_pktlen (o : Option Byte) : (s.pollTook o).pktlen = s.pktlen := by cases o <;> rfl
@[simp] theorem pollTook_fsize (o : Option Byte) : (s.pollTook o).fsize = s.fsize := by cases o <;> rfl
@[simp] theorem pollTook_retry (o : Option Byte) : (s.pollTook o).retry = s.retry := by cases o <;> rfl
@[simp] theorem pollTook_status (o : Option Byte) : (s.pollTook o).status = s.status := by cases o <;> rfl
@[simp] theorem pollTook_lastResp (o : Option Byte) : (s.pollTook o).lastResp = s.lastResp := by cases o <;> rfl
@[simp] theorem pollTook_lastRespValid (o : Option Byte) :
    (s.pollTook o).lastRespValid = s.lastRespValid := 
  by cases o <;> rfl
@[simp] theorem pollTook_fclosed (o : Option Byte) : (s.pollTook o).fclosed = s.fclosed := by cases o <;> rfl
@[simp] theorem pollTook_todo (o : Option Byte) : (s.pollTook o).todo = s.todo := by cases o <;> rfl
@[simp] theorem pollTook_params (o : Option Byte) : (s.pollTook o).params = s.params := by cases o <;> rfl

/-! ### `sizeAnswered` -/

@[simp] theorem sizeAnswered_phase : s.sizeAnswered.phase = s.phase := rfl
@[simp] theorem sizeAnswered_hs : s.sizeAnswered.hs = s.hs := rfl
@[simp] theorem sizeAnswered_txidx : s.sizeAnswered.txidx = s.txidx := rfl
@[simp] theorem sizeAnswered_seq : s.sizeAnswered.seq = s.seq := rfl
@[simp] theorem sizeAnswered_bsel : s.sizeAnswered.bsel = s.bsel := rfl
@[simp] theorem sizeAnswered_kind : s.sizeAnswered.kind = s.kind := rfl
@[simp] theorem sizeAnswered_crc : s.sizeAnswered.crc = s.crc := rfl
@[simp] theorem sizeAnswered_pbuf : s.sizeAnswered.pbuf = s.pbuf := rfl
@[simp] theorem sizeAnswered_plen : s.sizeAnswered.plen = s.plen := rfl
@[simp] theorem sizeAnswered_pktlen : s.sizeAnswered.pktlen = s.pktlen := rfl
@[simp] theorem sizeAnswered_fsize : s.sizeAnswered.fsize = s.fsize := rfl
@[simp] theorem sizeAnswered_retry : s.sizeAnswered.retry = s.retry := rfl
@[simp] theorem sizeAnswered_status : s.sizeAnswered.status = s.status := rfl
@[simp] theorem sizeAnswered_lastResp : s.sizeAnswered.lastResp = s.lastResp := rfl
@[simp] theorem sizeAnswered_lastRespValid : s.sizeAnswered.lastRespValid = s.lastRespValid := rfl
@[simp] theorem sizeAnswered_fclosed : s.sizeAnswered.fclosed = s.fclosed := rfl
@[simp] theorem sizeAnswered_todo : s.sizeAnswered.todo = s.todo := rfl
@[simp] theorem sizeAnswered_params : s.sizeAnswered.params = s.params := rfl
@[simp] theorem sizeAnswered_env : s.sizeAnswered.env = { s.env with sizeDraws := s.env.sizeDraws.tail } := rfl

/-! ### `readHeld` -/

@[simp] theorem readHeld_phase : s.readHeld.phase = s.phase := rfl
@[simp] theorem readHeld_hs : s.readHeld.hs = s.hs := rfl
@[simp] theorem readHeld_txidx : s.readHeld.txidx = s.txidx := rfl
@[simp] theorem readHeld_seq : s.readHeld.seq = s.seq := rfl
@[simp] theorem readHeld_bsel : s.readHeld.bsel = s.bsel := rfl
@[simp] theorem readHeld_kind : s.readHeld.kind = s.kind := rfl
@[simp] theorem readHeld_crc : s.readHeld.crc = s.crc := rfl
@[simp] theorem readHeld_pbuf : s.readHeld.pbuf = s.pbuf := rfl
@[simp] theorem readHeld_plen : s.readHeld.plen = s.plen := rfl
@[simp] theorem readHeld_pktlen : s.readHeld.pktlen = s.pktlen := rfl
@[simp] theorem readHeld_fsize : s.readHeld.fsize = s.fsize := rfl
@[simp] theorem readHeld_retry : s.readHeld.retry = s.retry := rfl
@[simp] theorem readHeld_status : s.readHeld.status = s.status := rfl
@[simp] theorem readHeld_lastResp : s.readHeld.lastResp = s.lastResp := rfl
@[simp] theorem readHeld_lastRespValid : s.readHeld.lastRespValid = s.lastRespValid := rfl
@[simp] theorem readHeld_fclosed : s.readHeld.fclosed = s.fclosed := rfl
@[simp] theorem readHeld_todo : s.readHeld.todo = s.todo := rfl
@[simp] theorem readHeld_params : s.readHeld.params = s.params := rfl
@[simp] theorem readHeld_env : s.readHeld.env = { s.env with readDraws := s.env.readDraws.tail } := rfl

/-! ### `readFailed` -/

@[simp] theorem readFailed_phase : s.readFailed.phase = s.phase := rfl
@[simp] theorem readFailed_hs : s.readFailed.hs = s.hs := rfl
@[simp] theorem readFailed_txidx : s.readFailed.txidx = s.txidx := rfl
@[simp] theorem readFailed_seq : s.readFailed.seq = s.seq := rfl
@[simp] theorem readFailed_bsel : s.readFailed.bsel = s.bsel := rfl
@[simp] theorem readFailed_kind : s.readFailed.kind = s.kind := rfl
@[simp] theorem readFailed_crc : s.readFailed.crc = s.crc := rfl
@[simp] theorem readFailed_pbuf : s.readFailed.pbuf = s.pbuf := rfl
@[simp] theorem readFailed_plen : s.readFailed.plen = s.plen := rfl
@[simp] theorem readFailed_pktlen : s.readFailed.pktlen = s.pktlen := rfl
@[simp] theorem readFailed_fsize : s.readFailed.fsize = s.fsize := rfl
@[simp] theorem readFailed_retry : s.readFailed.retry = s.retry := rfl
@[simp] theorem readFailed_status : s.readFailed.status = s.status := rfl
@[simp] theorem readFailed_lastResp : s.readFailed.lastResp = s.lastResp := rfl
@[simp] theorem readFailed_lastRespValid : s.readFailed.lastRespValid = s.lastRespValid := rfl
@[simp] theorem readFailed_fclosed : s.readFailed.fclosed = s.fclosed := rfl
@[simp] theorem readFailed_todo : s.readFailed.todo = s.todo := rfl
@[simp] theorem readFailed_params : s.readFailed.params = s.params := rfl
@[simp] theorem readFailed_env :
    s.readFailed.env = { s.env with readDraws := s.env.readDraws.tail, fileReads := s.env.fileReads + 1 } := rfl

/-! ### `readTook` -/

@[simp] theorem readTook_phase (n : Nat) : (s.readTook n).phase = s.phase := rfl
@[simp] theorem readTook_hs (n : Nat) : (s.readTook n).hs = s.hs := rfl
@[simp] theorem readTook_txidx (n : Nat) : (s.readTook n).txidx = s.txidx := rfl
@[simp] theorem readTook_seq (n : Nat) : (s.readTook n).seq = s.seq := rfl
@[simp] theorem readTook_bsel (n : Nat) : (s.readTook n).bsel = s.bsel := rfl
@[simp] theorem readTook_kind (n : Nat) : (s.readTook n).kind = s.kind := rfl
@[simp] theorem readTook_crc (n : Nat) : (s.readTook n).crc = s.crc := rfl
@[simp] theorem readTook_pbuf (n : Nat) : (s.readTook n).pbuf = s.pbuf := rfl
@[simp] theorem readTook_plen (n : Nat) : (s.readTook n).plen = s.plen := rfl
@[simp] theorem readTook_pktlen (n : Nat) : (s.readTook n).pktlen = s.pktlen := rfl
@[simp] theorem readTook_fsize (n : Nat) : (s.readTook n).fsize = s.fsize := rfl
@[simp] theorem readTook_retry (n : Nat) : (s.readTook n).retry = s.retry := rfl
@[simp] theorem readTook_status (n : Nat) : (s.readTook n).status = s.status := rfl
@[simp] theorem readTook_lastResp (n : Nat) : (s.readTook n).lastResp = s.lastResp := rfl
@[simp] theorem readTook_lastRespValid (n : Nat) : (s.readTook n).lastRespValid = s.lastRespValid := rfl
@[simp] theorem readTook_fclosed (n : Nat) : (s.readTook n).fclosed = s.fclosed := rfl
@[simp] theorem readTook_todo (n : Nat) : (s.readTook n).todo = s.todo := rfl
@[simp] theorem readTook_params (n : Nat) : (s.readTook n).params = s.params := rfl
@[simp] theorem readTook_env (n : Nat) :
    (s.readTook n).env = { s.env with readDraws := s.env.readDraws.tail, fileReads := s.env.fileReads + 1, file := { s.env.file with cursor := s.env.file.cursor + n } } := rfl

/-! ### `moved` -/

@[simp] theorem moved_phase : s.moved.phase = s.phase := rfl
@[simp] theorem moved_hs : s.moved.hs = s.hs := rfl
@[simp] theorem moved_txidx : s.moved.txidx = s.txidx := rfl
@[simp] theorem moved_seq : s.moved.seq = s.seq := rfl
@[simp] theorem moved_bsel : s.moved.bsel = s.bsel := rfl
@[simp] theorem moved_kind : s.moved.kind = s.kind := rfl
@[simp] theorem moved_crc : s.moved.crc = s.crc := rfl
@[simp] theorem moved_pbuf : s.moved.pbuf = s.pbuf := rfl
@[simp] theorem moved_plen : s.moved.plen = s.plen := rfl
@[simp] theorem moved_pktlen : s.moved.pktlen = s.pktlen := rfl
@[simp] theorem moved_fsize : s.moved.fsize = s.fsize := rfl
@[simp] theorem moved_retry : s.moved.retry = s.retry := rfl
@[simp] theorem moved_status : s.moved.status = s.status := rfl
@[simp] theorem moved_lastResp : s.moved.lastResp = s.lastResp := rfl
@[simp] theorem moved_lastRespValid : s.moved.lastRespValid = s.lastRespValid := rfl
@[simp] theorem moved_fclosed : s.moved.fclosed = s.fclosed := rfl
@[simp] theorem moved_todo : s.moved.todo = s.todo := rfl
@[simp] theorem moved_params : s.moved.params = s.params := rfl
@[simp] theorem moved_env : s.moved.env = { s.env with sched := s.env.sched.tail } := rfl

/-! ### `closeFile` -/

@[simp] theorem closeFile_phase : s.closeFile.phase = s.phase := by
  unfold State.closeFile; split <;> simp_all
@[simp] theorem closeFile_hs : s.closeFile.hs = s.hs := by
  unfold State.closeFile; split <;> simp_all
@[simp] theorem closeFile_txidx : s.closeFile.txidx = s.txidx := by
  unfold State.closeFile; split <;> simp_all
@[simp] theorem closeFile_seq : s.closeFile.seq = s.seq := by
  unfold State.closeFile; split <;> simp_all
@[simp] theorem closeFile_bsel : s.closeFile.bsel = s.bsel := by
  unfold State.closeFile; split <;> simp_all
@[simp] theorem closeFile_kind : s.closeFile.kind = s.kind := by
  unfold State.closeFile; split <;> simp_all
@[simp] theorem closeFile_crc : s.closeFile.crc = s.crc := by
  unfold State.closeFile; split <;> simp_all
@[simp] theorem closeFile_pbuf : s.closeFile.pbuf = s.pbuf := by
  unfold State.closeFile; split <;> simp_all
@[simp] theorem closeFile_plen : s.closeFile.plen = s.plen := by
  unfold State.closeFile; split <;> simp_all
@[simp] theorem closeFile_pktlen : s.closeFile.pktlen = s.pktlen := by
  unfold State.closeFile; split <;> simp_all
@[simp] theorem closeFile_fsize : s.closeFile.fsize = s.fsize := by
  unfold State.closeFile; split <;> simp_all
@[simp] theorem closeFile_retry : s.closeFile.retry = s.retry := by
  unfold State.closeFile; split <;> simp_all
@[simp] theorem closeFile_status : s.closeFile.status = s.status := by
  unfold State.closeFile; split <;> simp_all
@[simp] theorem closeFile_lastResp :
    s.closeFile.lastResp = s.lastResp := 
  by
  unfold State.closeFile; split <;> simp_all
@[simp] theorem closeFile_lastRespValid :
    s.closeFile.lastRespValid = s.lastRespValid := 
  by
  unfold State.closeFile; split <;> simp_all
@[simp] theorem closeFile_fclosed : s.closeFile.fclosed = true := by
  unfold State.closeFile; split <;> simp_all
@[simp] theorem closeFile_todo : s.closeFile.todo = s.todo := by
  unfold State.closeFile; split <;> simp_all
@[simp] theorem closeFile_params : s.closeFile.params = s.params := by
  unfold State.closeFile; split <;> simp_all

/-! ### `raiseAbort` -/

@[simp] theorem raiseAbort_phase (st : Status) :
    (raiseAbort st s).phase = .aborted := rfl
@[simp] theorem raiseAbort_hs (st : Status) :
    (raiseAbort st s).hs = .idle := by simp [raiseAbort]
@[simp] theorem raiseAbort_txidx (st : Status) :
    (raiseAbort st s).txidx = s.txidx := by simp [raiseAbort]
@[simp] theorem raiseAbort_seq (st : Status) :
    (raiseAbort st s).seq = s.seq := by simp [raiseAbort]
@[simp] theorem raiseAbort_bsel (st : Status) :
    (raiseAbort st s).bsel = s.bsel := by simp [raiseAbort]
@[simp] theorem raiseAbort_kind (st : Status) :
    (raiseAbort st s).kind = s.kind := by simp [raiseAbort]
@[simp] theorem raiseAbort_crc (st : Status) :
    (raiseAbort st s).crc = s.crc := by simp [raiseAbort]
@[simp] theorem raiseAbort_pbuf (st : Status) :
    (raiseAbort st s).pbuf = s.pbuf := by simp [raiseAbort]
@[simp] theorem raiseAbort_plen (st : Status) :
    (raiseAbort st s).plen = s.plen := by simp [raiseAbort]
@[simp] theorem raiseAbort_pktlen (st : Status) :
    (raiseAbort st s).pktlen = s.pktlen := by simp [raiseAbort]
@[simp] theorem raiseAbort_fsize (st : Status) :
    (raiseAbort st s).fsize = s.fsize := by simp [raiseAbort]
@[simp] theorem raiseAbort_retry (st : Status) :
    (raiseAbort st s).retry = s.retry := by simp [raiseAbort]
@[simp] theorem raiseAbort_status (st : Status) :
    (raiseAbort st s).status = st := rfl
@[simp] theorem raiseAbort_lastResp (st : Status) :
    (raiseAbort st s).lastResp = s.lastResp := by simp [raiseAbort]
@[simp] theorem raiseAbort_lastRespValid (st : Status) :
    (raiseAbort st s).lastRespValid = s.lastRespValid := by simp [raiseAbort]
@[simp] theorem raiseAbort_fclosed (st : Status) :
    (raiseAbort st s).fclosed = true := by simp [raiseAbort]
@[simp] theorem raiseAbort_todo (st : Status) :
    (raiseAbort st s).todo = .none := by simp [raiseAbort]
@[simp] theorem raiseAbort_params (st : Status) :
    (raiseAbort st s).params = s.params := by simp [raiseAbort]
@[simp] theorem raiseAbort_env (st : Status) :
    (raiseAbort st s).env = s.closeFile.env := by
  simp only [raiseAbort, State.closeFile]
  split <;> rfl

/-! ### `finish` -/

@[simp] theorem finish_phase (st : Status) :
    (finish st s).phase = .closed := rfl
@[simp] theorem finish_hs (st : Status) :
    (finish st s).hs = .idle := rfl
@[simp] theorem finish_txidx (st : Status) :
    (finish st s).txidx = s.txidx := by simp [finish]
@[simp] theorem finish_seq (st : Status) :
    (finish st s).seq = s.seq := by simp [finish]
@[simp] theorem finish_bsel (st : Status) :
    (finish st s).bsel = s.bsel := by simp [finish]
@[simp] theorem finish_kind (st : Status) :
    (finish st s).kind = s.kind := by simp [finish]
@[simp] theorem finish_crc (st : Status) :
    (finish st s).crc = s.crc := by simp [finish]
@[simp] theorem finish_pbuf (st : Status) :
    (finish st s).pbuf = s.pbuf := by simp [finish]
@[simp] theorem finish_plen (st : Status) :
    (finish st s).plen = s.plen := by simp [finish]
@[simp] theorem finish_pktlen (st : Status) :
    (finish st s).pktlen = s.pktlen := by simp [finish]
@[simp] theorem finish_fsize (st : Status) :
    (finish st s).fsize = s.fsize := by simp [finish]
@[simp] theorem finish_retry (st : Status) :
    (finish st s).retry = s.retry := by simp [finish]
@[simp] theorem finish_status (st : Status) :
    (finish st s).status = st := rfl
@[simp] theorem finish_lastResp (st : Status) :
    (finish st s).lastResp = s.lastResp := by simp [finish]
@[simp] theorem finish_lastRespValid (st : Status) :
    (finish st s).lastRespValid = s.lastRespValid := by simp [finish]
@[simp] theorem finish_fclosed (st : Status) :
    (finish st s).fclosed = true := by simp [finish]
@[simp] theorem finish_todo (st : Status) :
    (finish st s).todo = s.todo := by simp [finish]
@[simp] theorem finish_params (st : Status) :
    (finish st s).params = s.params := by simp [finish]
@[simp] theorem finish_env (st : Status) :
    (finish st s).env = s.closeFile.env := by
  simp only [finish, State.closeFile]

/-! ### `crcInit` -/

@[simp] theorem crcInit_phase (v : U16) : (crcInit v s).phase = s.phase := rfl
@[simp] theorem crcInit_hs (v : U16) : (crcInit v s).hs = s.hs := rfl
@[simp] theorem crcInit_txidx (v : U16) : (crcInit v s).txidx = s.txidx := rfl
@[simp] theorem crcInit_seq (v : U16) : (crcInit v s).seq = s.seq := rfl
@[simp] theorem crcInit_bsel (v : U16) : (crcInit v s).bsel = s.bsel := rfl
@[simp] theorem crcInit_kind (v : U16) : (crcInit v s).kind = s.kind := rfl
@[simp] theorem crcInit_crc (v : U16) : (crcInit v s).crc = v := rfl
@[simp] theorem crcInit_pbuf (v : U16) : (crcInit v s).pbuf = s.pbuf := rfl
@[simp] theorem crcInit_plen (v : U16) : (crcInit v s).plen = s.plen := rfl
@[simp] theorem crcInit_pktlen (v : U16) : (crcInit v s).pktlen = s.pktlen := rfl
@[simp] theorem crcInit_fsize (v : U16) : (crcInit v s).fsize = s.fsize := rfl
@[simp] theorem crcInit_retry (v : U16) : (crcInit v s).retry = s.retry := rfl
@[simp] theorem crcInit_status (v : U16) : (crcInit v s).status = s.status := rfl
@[simp] theorem crcInit_lastResp (v : U16) : (crcInit v s).lastResp = s.lastResp := rfl
@[simp] theorem crcInit_lastRespValid (v : U16) : (crcInit v s).lastRespValid = s.lastRespValid := rfl
@[simp] theorem crcInit_fclosed (v : U16) : (crcInit v s).fclosed = s.fclosed := rfl
@[simp] theorem crcInit_todo (v : U16) : (crcInit v s).todo = s.todo := rfl
@[simp] theorem crcInit_params (v : U16) : (crcInit v s).params = s.params := rfl
@[simp] theorem crcInit_env (v : U16) : (crcInit v s).env = s.env := rfl

/-! ### `crcStep` -/

@[simp] theorem crcStep_phase (b : Byte) : (crcStep b s).phase = s.phase := rfl
@[simp] theorem crcStep_hs (b : Byte) : (crcStep b s).hs = s.hs := rfl
@[simp] theorem crcStep_txidx (b : Byte) : (crcStep b s).txidx = s.txidx := rfl
@[simp] theorem crcStep_seq (b : Byte) : (crcStep b s).seq = s.seq := rfl
@[simp] theorem crcStep_bsel (b : Byte) : (crcStep b s).bsel = s.bsel := rfl
@[simp] theorem crcStep_kind (b : Byte) : (crcStep b s).kind = s.kind := rfl
@[simp] theorem crcStep_crc (b : Byte) : (crcStep b s).crc = crcNext s.crc b := rfl
@[simp] theorem crcStep_pbuf (b : Byte) : (crcStep b s).pbuf = s.pbuf := rfl
@[simp] theorem crcStep_plen (b : Byte) : (crcStep b s).plen = s.plen := rfl
@[simp] theorem crcStep_pktlen (b : Byte) : (crcStep b s).pktlen = s.pktlen := rfl
@[simp] theorem crcStep_fsize (b : Byte) : (crcStep b s).fsize = s.fsize := rfl
@[simp] theorem crcStep_retry (b : Byte) : (crcStep b s).retry = s.retry := rfl
@[simp] theorem crcStep_status (b : Byte) : (crcStep b s).status = s.status := rfl
@[simp] theorem crcStep_lastResp (b : Byte) : (crcStep b s).lastResp = s.lastResp := rfl
@[simp] theorem crcStep_lastRespValid (b : Byte) : (crcStep b s).lastRespValid = s.lastRespValid := rfl
@[simp] theorem crcStep_fclosed (b : Byte) : (crcStep b s).fclosed = s.fclosed := rfl
@[simp] theorem crcStep_todo (b : Byte) : (crcStep b s).todo = s.todo := rfl
@[simp] theorem crcStep_params (b : Byte) : (crcStep b s).params = s.params := rfl
@[simp] theorem crcStep_env (b : Byte) : (crcStep b s).env = s.env := rfl

/-! ### `runCrc16` -/

@[simp] theorem runCrc16_phase (data : List Byte) (v : U16) : (runCrc16 data v s).phase = s.phase := rfl
@[simp] theorem runCrc16_hs (data : List Byte) (v : U16) : (runCrc16 data v s).hs = s.hs := rfl
@[simp] theorem runCrc16_txidx (data : List Byte) (v : U16) : (runCrc16 data v s).txidx = s.txidx := rfl
@[simp] theorem runCrc16_seq (data : List Byte) (v : U16) : (runCrc16 data v s).seq = s.seq := rfl
@[simp] theorem runCrc16_bsel (data : List Byte) (v : U16) : (runCrc16 data v s).bsel = s.bsel := rfl
@[simp] theorem runCrc16_kind (data : List Byte) (v : U16) : (runCrc16 data v s).kind = s.kind := rfl
@[simp] theorem runCrc16_crc (data : List Byte) (v : U16) : (runCrc16 data v s).crc = crc16 data v := rfl
@[simp] theorem runCrc16_pbuf (data : List Byte) (v : U16) : (runCrc16 data v s).pbuf = s.pbuf := rfl
@[simp] theorem runCrc16_plen (data : List Byte) (v : U16) : (runCrc16 data v s).plen = s.plen := rfl
@[simp] theorem runCrc16_pktlen (data : List Byte) (v : U16) : (runCrc16 data v s).pktlen = s.pktlen := rfl
@[simp] theorem runCrc16_fsize (data : List Byte) (v : U16) : (runCrc16 data v s).fsize = s.fsize := rfl
@[simp] theorem runCrc16_retry (data : List Byte) (v : U16) : (runCrc16 data v s).retry = s.retry := rfl
@[simp] theorem runCrc16_status (data : List Byte) (v : U16) : (runCrc16 data v s).status = s.status := rfl
@[simp] theorem runCrc16_lastResp (data : List Byte) (v : U16) : (runCrc16 data v s).lastResp = s.lastResp := rfl
@[simp] theorem runCrc16_lastRespValid (data : List Byte) (v : U16) :
    (runCrc16 data v s).lastRespValid = s.lastRespValid := rfl
@[simp] theorem runCrc16_fclosed (data : List Byte) (v : U16) : (runCrc16 data v s).fclosed = s.fclosed := rfl
@[simp] theorem runCrc16_todo (data : List Byte) (v : U16) : (runCrc16 data v s).todo = s.todo := rfl
@[simp] theorem runCrc16_params (data : List Byte) (v : U16) : (runCrc16 data v s).params = s.params := rfl
@[simp] theorem runCrc16_env (data : List Byte) (v : U16) : (runCrc16 data v s).env = s.env := rfl

/-! ### `selectFraming` -/

@[simp] theorem selectFraming_phase (sel : Bool) : (selectFraming sel s).phase = s.phase := rfl
@[simp] theorem selectFraming_hs (sel : Bool) : (selectFraming sel s).hs = s.hs := rfl
@[simp] theorem selectFraming_txidx (sel : Bool) : (selectFraming sel s).txidx = s.txidx := rfl
@[simp] theorem selectFraming_seq (sel : Bool) : (selectFraming sel s).seq = s.seq := rfl
@[simp] theorem selectFraming_bsel (sel : Bool) : (selectFraming sel s).bsel = sel := rfl
@[simp] theorem selectFraming_kind (sel : Bool) : (selectFraming sel s).kind = s.kind := rfl
@[simp] theorem selectFraming_crc (sel : Bool) : (selectFraming sel s).crc = s.crc := rfl
@[simp] theorem selectFraming_pbuf (sel : Bool) : (selectFraming sel s).pbuf = s.pbuf := rfl
@[simp] theorem selectFraming_plen (sel : Bool) : (selectFraming sel s).plen = s.plen := rfl
@[simp] theorem selectFraming_pktlen (sel : Bool) : (selectFraming sel s).pktlen = s.pktlen := rfl
@[simp] theorem selectFraming_fsize (sel : Bool) : (selectFraming sel s).fsize = s.fsize := rfl
@[simp] theorem selectFraming_retry (sel : Bool) : (selectFraming sel s).retry = s.retry := rfl
@[simp] theorem selectFraming_status (sel : Bool) : (selectFraming sel s).status = s.status := rfl
@[simp] theorem selectFraming_lastResp (sel : Bool) : (selectFraming sel s).lastResp = s.lastResp := rfl
@[simp] theorem selectFraming_lastRespValid (sel : Bool) :
    (selectFraming sel s).lastRespValid = s.lastRespValid := rfl
@[simp] theorem selectFraming_fclosed (sel : Bool) : (selectFraming sel s).fclosed = s.fclosed := rfl
@[simp] theorem selectFraming_todo (sel : Bool) : (selectFraming sel s).todo = s.todo := rfl
@[simp] theorem selectFraming_params (sel : Bool) : (selectFraming sel s).params = s.params := rfl
@[simp] theorem selectFraming_env (sel : Bool) : (selectFraming sel s).env = s.env := rfl

/-! ### `pad` -/

@[simp] theorem pad_phase : (pad s).phase = s.phase := rfl
@[simp] theorem pad_hs : (pad s).hs = s.hs := rfl
@[simp] theorem pad_txidx : (pad s).txidx = s.txidx := rfl
@[simp] theorem pad_seq : (pad s).seq = s.seq := rfl
@[simp] theorem pad_bsel : (pad s).bsel = s.bsel := rfl
@[simp] theorem pad_kind : (pad s).kind = s.kind := rfl
@[simp] theorem pad_crc : (pad s).crc = s.crc := rfl
@[simp] theorem pad_pbuf :
    (pad s).pbuf = memWrite s.pbuf s.plen.toNat (List.replicate (s.blockSize - s.plen.toNat) s.params.padByte) := rfl
@[simp] theorem pad_plen : (pad s).plen = s.plen := rfl
@[simp] theorem pad_pktlen : (pad s).pktlen = s.pktlen := rfl
@[simp] theorem pad_fsize : (pad s).fsize = s.fsize := rfl
@[simp] theorem pad_retry : (pad s).retry = s.retry := rfl
@[simp] theorem pad_status : (pad s).status = s.status := rfl
@[simp] theorem pad_lastResp : (pad s).lastResp = s.lastResp := rfl
@[simp] theorem pad_lastRespValid : (pad s).lastRespValid = s.lastRespValid := rfl
@[simp] theorem pad_fclosed : (pad s).fclosed = s.fclosed := rfl
@[simp] theorem pad_todo : (pad s).todo = s.todo := rfl
@[simp] theorem pad_params : (pad s).params = s.params := rfl
@[simp] theorem pad_env : (pad s).env = s.env := rfl

/-! ### `eotEncode` -/

@[simp] theorem eotEncode_phase : (eotEncode s).phase = s.phase := rfl
@[simp] theorem eotEncode_hs : (eotEncode s).hs = s.hs := rfl
@[simp] theorem eotEncode_txidx : (eotEncode s).txidx = s.txidx := rfl
@[simp] theorem eotEncode_seq : (eotEncode s).seq = s.seq := rfl
@[simp] theorem eotEncode_bsel : (eotEncode s).bsel = s.bsel := rfl
@[simp] theorem eotEncode_kind : (eotEncode s).kind = s.kind := rfl
@[simp] theorem eotEncode_crc : (eotEncode s).crc = s.crc := rfl
@[simp] theorem eotEncode_pbuf : (eotEncode s).pbuf = s.pbuf := rfl
@[simp] theorem eotEncode_plen : (eotEncode s).plen = s.plen := rfl
@[simp] theorem eotEncode_pktlen : (eotEncode s).pktlen = 1#11 := rfl
@[simp] theorem eotEncode_fsize : (eotEncode s).fsize = s.fsize := rfl
@[simp] theorem eotEncode_retry : (eotEncode s).retry = s.retry := rfl
@[simp] theorem eotEncode_status : (eotEncode s).status = s.status := rfl
@[simp] theorem eotEncode_lastResp : (eotEncode s).lastResp = s.lastResp := rfl
@[simp] theorem eotEncode_lastRespValid : (eotEncode s).lastRespValid = s.lastRespValid := rfl
@[simp] theorem eotEncode_fclosed : (eotEncode s).fclosed = s.fclosed := rfl
@[simp] theorem eotEncode_todo : (eotEncode s).todo = s.todo := rfl
@[simp] theorem eotEncode_params : (eotEncode s).params = s.params := rfl
@[simp] theorem eotEncode_env : (eotEncode s).env = s.env := rfl

/-! ### `beginSend` -/

@[simp] theorem beginSend_phase (first : Bool) : (beginSend first s).phase = s.phase := rfl
@[simp] theorem beginSend_hs (first : Bool) : (beginSend first s).hs = .tx := rfl
@[simp] theorem beginSend_txidx (first : Bool) : (beginSend first s).txidx = 0#11 := rfl
@[simp] theorem beginSend_seq (first : Bool) : (beginSend first s).seq = s.seq := rfl
@[simp] theorem beginSend_bsel (first : Bool) : (beginSend first s).bsel = s.bsel := rfl
@[simp] theorem beginSend_kind (first : Bool) : (beginSend first s).kind = s.kind := rfl
@[simp] theorem beginSend_crc (first : Bool) : (beginSend first s).crc = s.crc := rfl
@[simp] theorem beginSend_pbuf (first : Bool) : (beginSend first s).pbuf = s.pbuf := rfl
@[simp] theorem beginSend_plen (first : Bool) : (beginSend first s).plen = s.plen := rfl
@[simp] theorem beginSend_pktlen (first : Bool) : (beginSend first s).pktlen = s.pktlen := rfl
@[simp] theorem beginSend_fsize (first : Bool) : (beginSend first s).fsize = s.fsize := rfl
@[simp] theorem beginSend_retry (first : Bool) : (beginSend first s).retry = if first then 0 else s.retry := rfl
@[simp] theorem beginSend_status (first : Bool) : (beginSend first s).status = s.status := rfl
@[simp] theorem beginSend_lastResp (first : Bool) : (beginSend first s).lastResp = s.lastResp := rfl
@[simp] theorem beginSend_lastRespValid (first : Bool) : (beginSend first s).lastRespValid = s.lastRespValid := rfl
@[simp] theorem beginSend_fclosed (first : Bool) : (beginSend first s).fclosed = s.fclosed := rfl
@[simp] theorem beginSend_todo (first : Bool) : (beginSend first s).todo = s.todo := rfl
@[simp] theorem beginSend_params (first : Bool) : (beginSend first s).params = s.params := rfl
@[simp] theorem beginSend_env (first : Bool) : (beginSend first s).env = s.env := rfl

/-! ### `byteSent` -/

@[simp] theorem byteSent_phase : (byteSent s).phase = s.phase := rfl
@[simp] theorem byteSent_hs : (byteSent s).hs = if s.txidx + 1#11 < s.pktlen then .tx else .wait := rfl
@[simp] theorem byteSent_txidx : (byteSent s).txidx = s.txidx + 1#11 := rfl
@[simp] theorem byteSent_seq : (byteSent s).seq = s.seq := rfl
@[simp] theorem byteSent_bsel : (byteSent s).bsel = s.bsel := rfl
@[simp] theorem byteSent_kind : (byteSent s).kind = s.kind := rfl
@[simp] theorem byteSent_crc : (byteSent s).crc = s.crc := rfl
@[simp] theorem byteSent_pbuf : (byteSent s).pbuf = s.pbuf := rfl
@[simp] theorem byteSent_plen : (byteSent s).plen = s.plen := rfl
@[simp] theorem byteSent_pktlen : (byteSent s).pktlen = s.pktlen := rfl
@[simp] theorem byteSent_fsize : (byteSent s).fsize = s.fsize := rfl
@[simp] theorem byteSent_retry : (byteSent s).retry = s.retry := rfl
@[simp] theorem byteSent_status : (byteSent s).status = s.status := rfl
@[simp] theorem byteSent_lastResp : (byteSent s).lastResp = s.lastResp := rfl
@[simp] theorem byteSent_lastRespValid : (byteSent s).lastRespValid = s.lastRespValid := rfl
@[simp] theorem byteSent_fclosed : (byteSent s).fclosed = s.fclosed := rfl
@[simp] theorem byteSent_todo : (byteSent s).todo = s.todo := rfl
@[simp] theorem byteSent_params : (byteSent s).params = s.params := rfl
@[simp] theorem byteSent_env : (byteSent s).env = s.env := rfl

/-! ### `advance` -/

@[simp] theorem advance_phase : (advance s).phase = s.phase := rfl
@[simp] theorem advance_hs : (advance s).hs = s.hs := rfl
@[simp] theorem advance_txidx : (advance s).txidx = s.txidx := rfl
@[simp] theorem advance_seq : (advance s).seq = s.seq + 1#8 := rfl
@[simp] theorem advance_bsel : (advance s).bsel = s.bsel := rfl
@[simp] theorem advance_kind : (advance s).kind = s.kind := rfl
@[simp] theorem advance_crc : (advance s).crc = s.crc := rfl
@[simp] theorem advance_pbuf : (advance s).pbuf = s.pbuf := rfl
@[simp] theorem advance_plen : (advance s).plen = s.plen := rfl
@[simp] theorem advance_pktlen : (advance s).pktlen = s.pktlen := rfl
@[simp] theorem advance_fsize : (advance s).fsize = s.fsize := rfl
@[simp] theorem advance_retry : (advance s).retry = s.retry := rfl
@[simp] theorem advance_status : (advance s).status = s.status := rfl
@[simp] theorem advance_lastResp : (advance s).lastResp = s.lastResp := rfl
@[simp] theorem advance_lastRespValid : (advance s).lastRespValid = s.lastRespValid := rfl
@[simp] theorem advance_fclosed : (advance s).fclosed = s.fclosed := rfl
@[simp] theorem advance_todo : (advance s).todo = s.todo := rfl
@[simp] theorem advance_params : (advance s).params = s.params := rfl
@[simp] theorem advance_env : (advance s).env = s.env := rfl

/-! ### `awaited` -/

@[simp] theorem awaited_phase (b : Byte) : (awaited b s).phase = s.phase := rfl
@[simp] theorem awaited_hs (b : Byte) : (awaited b s).hs = s.hs := rfl
@[simp] theorem awaited_txidx (b : Byte) : (awaited b s).txidx = s.txidx := rfl
@[simp] theorem awaited_seq (b : Byte) : (awaited b s).seq = s.seq := rfl
@[simp] theorem awaited_bsel (b : Byte) : (awaited b s).bsel = s.bsel := rfl
@[simp] theorem awaited_kind (b : Byte) : (awaited b s).kind = s.kind := rfl
@[simp] theorem awaited_crc (b : Byte) : (awaited b s).crc = s.crc := rfl
@[simp] theorem awaited_pbuf (b : Byte) : (awaited b s).pbuf = s.pbuf := rfl
@[simp] theorem awaited_plen (b : Byte) : (awaited b s).plen = s.plen := rfl
@[simp] theorem awaited_pktlen (b : Byte) : (awaited b s).pktlen = s.pktlen := rfl
@[simp] theorem awaited_fsize (b : Byte) : (awaited b s).fsize = s.fsize := rfl
@[simp] theorem awaited_retry (b : Byte) : (awaited b s).retry = s.retry := rfl
@[simp] theorem awaited_status (b : Byte) : (awaited b s).status = s.status := rfl
@[simp] theorem awaited_lastResp (b : Byte) : (awaited b s).lastResp = b := rfl
@[simp] theorem awaited_lastRespValid (b : Byte) : (awaited b s).lastRespValid = true := rfl
@[simp] theorem awaited_fclosed (b : Byte) : (awaited b s).fclosed = s.fclosed := rfl
@[simp] theorem awaited_todo (b : Byte) : (awaited b s).todo = s.todo := rfl
@[simp] theorem awaited_params (b : Byte) : (awaited b s).params = s.params := rfl
@[simp] theorem awaited_env (b : Byte) : (awaited b s).env = (s.rxTook b).env := rfl

/-! ### `eotSend` -/

@[simp] theorem eotSend_phase : (eotSend s).phase = .eotSent := rfl
@[simp] theorem eotSend_hs : (eotSend s).hs = .tx := rfl
@[simp] theorem eotSend_txidx : (eotSend s).txidx = 0#11 := rfl
@[simp] theorem eotSend_seq : (eotSend s).seq = s.seq := rfl
@[simp] theorem eotSend_bsel : (eotSend s).bsel = s.bsel := rfl
@[simp] theorem eotSend_kind : (eotSend s).kind = .eot := rfl
@[simp] theorem eotSend_crc : (eotSend s).crc = s.crc := rfl
@[simp] theorem eotSend_pbuf : (eotSend s).pbuf = s.pbuf := rfl
@[simp] theorem eotSend_plen : (eotSend s).plen = s.plen := rfl
@[simp] theorem eotSend_pktlen : (eotSend s).pktlen = 1#11 := rfl
@[simp] theorem eotSend_fsize : (eotSend s).fsize = s.fsize := rfl
@[simp] theorem eotSend_retry : (eotSend s).retry = 0 := rfl
@[simp] theorem eotSend_status : (eotSend s).status = s.status := rfl
@[simp] theorem eotSend_lastResp : (eotSend s).lastResp = s.lastResp := rfl
@[simp] theorem eotSend_lastRespValid : (eotSend s).lastRespValid = s.lastRespValid := rfl
@[simp] theorem eotSend_fclosed : (eotSend s).fclosed = s.fclosed := rfl
@[simp] theorem eotSend_todo : (eotSend s).todo = .none := rfl
@[simp] theorem eotSend_params : (eotSend s).params = s.params := rfl
@[simp] theorem eotSend_env : (eotSend s).env = s.env := rfl

/-! ### `returned` -/

@[simp] theorem returned_phase (r : Resp) : (returned r s).phase = s.phase := rfl
@[simp] theorem returned_hs (r : Resp) : (returned r s).hs = .idle := rfl
@[simp] theorem returned_txidx (r : Resp) : (returned r s).txidx = s.txidx := rfl
@[simp] theorem returned_seq (r : Resp) : (returned r s).seq = s.seq := rfl
@[simp] theorem returned_bsel (r : Resp) : (returned r s).bsel = s.bsel := rfl
@[simp] theorem returned_kind (r : Resp) : (returned r s).kind = s.kind := rfl
@[simp] theorem returned_crc (r : Resp) : (returned r s).crc = s.crc := rfl
@[simp] theorem returned_pbuf (r : Resp) : (returned r s).pbuf = s.pbuf := rfl
@[simp] theorem returned_plen (r : Resp) : (returned r s).plen = s.plen := rfl
@[simp] theorem returned_pktlen (r : Resp) : (returned r s).pktlen = s.pktlen := rfl
@[simp] theorem returned_fsize (r : Resp) : (returned r s).fsize = s.fsize := rfl
@[simp] theorem returned_retry (r : Resp) : (returned r s).retry = s.retry := rfl
@[simp] theorem returned_status (r : Resp) : (returned r s).status = s.status := rfl
@[simp] theorem returned_lastResp (r : Resp) : (returned r s).lastResp = s.lastResp := rfl
@[simp] theorem returned_lastRespValid (r : Resp) : (returned r s).lastRespValid = s.lastRespValid := rfl
@[simp] theorem returned_fclosed (r : Resp) : (returned r s).fclosed = s.fclosed := rfl
@[simp] theorem returned_todo (r : Resp) : (returned r s).todo = .resp r := rfl
@[simp] theorem returned_params (r : Resp) : (returned r s).params = s.params := rfl
@[simp] theorem returned_env (r : Resp) : (returned r s).env = s.env := rfl

/-! ### `hdrSend` -/

@[simp] theorem hdrSend_phase : (hdrSend s).phase = s.phase := rfl
@[simp] theorem hdrSend_hs : (hdrSend s).hs = s.hs := rfl
@[simp] theorem hdrSend_txidx : (hdrSend s).txidx = s.txidx := rfl
@[simp] theorem hdrSend_seq : (hdrSend s).seq = 0#8 := rfl
@[simp] theorem hdrSend_bsel : (hdrSend s).bsel = false := rfl
@[simp] theorem hdrSend_kind : (hdrSend s).kind = .hdr := rfl
@[simp] theorem hdrSend_crc : (hdrSend s).crc = s.crc := rfl
@[simp] theorem hdrSend_pbuf : (hdrSend s).pbuf = s.pbuf := rfl
@[simp] theorem hdrSend_plen : (hdrSend s).plen = s.plen := rfl
@[simp] theorem hdrSend_pktlen : (hdrSend s).pktlen = s.pktlen := rfl
@[simp] theorem hdrSend_fsize : (hdrSend s).fsize = s.fsize := rfl
@[simp] theorem hdrSend_retry : (hdrSend s).retry = s.retry := rfl
@[simp] theorem hdrSend_status : (hdrSend s).status = s.status := rfl
@[simp] theorem hdrSend_lastResp : (hdrSend s).lastResp = s.lastResp := rfl
@[simp] theorem hdrSend_lastRespValid : (hdrSend s).lastRespValid = s.lastRespValid := rfl
@[simp] theorem hdrSend_fclosed : (hdrSend s).fclosed = s.fclosed := rfl
@[simp] theorem hdrSend_todo : (hdrSend s).todo = .hdrEncode := rfl
@[simp] theorem hdrSend_params : (hdrSend s).params = s.params := rfl
@[simp] theorem hdrSend_env : (hdrSend s).env = s.env := rfl

/-! ### `finSend` -/

@[simp] theorem finSend_phase : (finSend s).phase = .finSent := rfl
@[simp] theorem finSend_hs : (finSend s).hs = s.hs := rfl
@[simp] theorem finSend_txidx : (finSend s).txidx = s.txidx := rfl
@[simp] theorem finSend_seq : (finSend s).seq = 0#8 := rfl
@[simp] theorem finSend_bsel : (finSend s).bsel = false := rfl
@[simp] theorem finSend_kind : (finSend s).kind = .fin := rfl
@[simp] theorem finSend_crc : (finSend s).crc = s.crc := rfl
@[simp] theorem finSend_pbuf : (finSend s).pbuf = s.pbuf := rfl
@[simp] theorem finSend_plen : (finSend s).plen = s.plen := rfl
@[simp] theorem finSend_pktlen : (finSend s).pktlen = s.pktlen := rfl
@[simp] theorem finSend_fsize : (finSend s).fsize = s.fsize := rfl
@[simp] theorem finSend_retry : (finSend s).retry = s.retry := rfl
@[simp] theorem finSend_status : (finSend s).status = s.status := rfl
@[simp] theorem finSend_lastResp : (finSend s).lastResp = s.lastResp := rfl
@[simp] theorem finSend_lastRespValid : (finSend s).lastRespValid = s.lastRespValid := rfl
@[simp] theorem finSend_fclosed : (finSend s).fclosed = s.fclosed := rfl
@[simp] theorem finSend_todo : (finSend s).todo = .finEncode := rfl
@[simp] theorem finSend_params : (finSend s).params = s.params := rfl
@[simp] theorem finSend_env : (finSend s).env = s.env := rfl

/-! ### `sessionStart` -/

@[simp] theorem sessionStart_phase : (sessionStart s).phase = .headerSent := rfl
@[simp] theorem sessionStart_hs : (sessionStart s).hs = .idle := rfl
@[simp] theorem sessionStart_txidx : (sessionStart s).txidx = 0#11 := rfl
@[simp] theorem sessionStart_seq : (sessionStart s).seq = 0#8 := rfl
@[simp] theorem sessionStart_bsel : (sessionStart s).bsel = false := rfl
@[simp] theorem sessionStart_kind : (sessionStart s).kind = s.kind := rfl
@[simp] theorem sessionStart_crc : (sessionStart s).crc = s.crc := rfl
@[simp] theorem sessionStart_pbuf : (sessionStart s).pbuf = s.pbuf := rfl
@[simp] theorem sessionStart_plen : (sessionStart s).plen = s.plen := rfl
@[simp] theorem sessionStart_pktlen : (sessionStart s).pktlen = s.pktlen := rfl
@[simp] theorem sessionStart_fsize : (sessionStart s).fsize = s.fsize := rfl
@[simp] theorem sessionStart_retry : (sessionStart s).retry = 0 := rfl
@[simp] theorem sessionStart_status : (sessionStart s).status = .none := rfl
@[simp] theorem sessionStart_lastResp : (sessionStart s).lastResp = s.lastResp := rfl
@[simp] theorem sessionStart_lastRespValid : (sessionStart s).lastRespValid = false := rfl
@[simp] theorem sessionStart_fclosed : (sessionStart s).fclosed = false := rfl
@[simp] theorem sessionStart_todo : (sessionStart s).todo = .none := rfl
@[simp] theorem sessionStart_params : (sessionStart s).params = s.params := rfl
@[simp] theorem sessionStart_env : (sessionStart s).env = s.env := rfl

/-! ### `receiverSends` -/

@[simp] theorem receiverSends_phase (b : Byte) : (receiverSends b s).phase = s.phase := rfl
@[simp] theorem receiverSends_hs (b : Byte) : (receiverSends b s).hs = s.hs := rfl
@[simp] theorem receiverSends_txidx (b : Byte) : (receiverSends b s).txidx = s.txidx := rfl
@[simp] theorem receiverSends_seq (b : Byte) : (receiverSends b s).seq = s.seq := rfl
@[simp] theorem receiverSends_bsel (b : Byte) : (receiverSends b s).bsel = s.bsel := rfl
@[simp] theorem receiverSends_kind (b : Byte) : (receiverSends b s).kind = s.kind := rfl
@[simp] theorem receiverSends_crc (b : Byte) : (receiverSends b s).crc = s.crc := rfl
@[simp] theorem receiverSends_pbuf (b : Byte) : (receiverSends b s).pbuf = s.pbuf := rfl
@[simp] theorem receiverSends_plen (b : Byte) : (receiverSends b s).plen = s.plen := rfl
@[simp] theorem receiverSends_pktlen (b : Byte) : (receiverSends b s).pktlen = s.pktlen := rfl
@[simp] theorem receiverSends_fsize (b : Byte) : (receiverSends b s).fsize = s.fsize := rfl
@[simp] theorem receiverSends_retry (b : Byte) : (receiverSends b s).retry = s.retry := rfl
@[simp] theorem receiverSends_status (b : Byte) : (receiverSends b s).status = s.status := rfl
@[simp] theorem receiverSends_lastResp (b : Byte) : (receiverSends b s).lastResp = s.lastResp := rfl
@[simp] theorem receiverSends_lastRespValid (b : Byte) : (receiverSends b s).lastRespValid = s.lastRespValid := rfl
@[simp] theorem receiverSends_fclosed (b : Byte) : (receiverSends b s).fclosed = s.fclosed := rfl
@[simp] theorem receiverSends_todo (b : Byte) : (receiverSends b s).todo = s.todo := rfl
@[simp] theorem receiverSends_params (b : Byte) : (receiverSends b s).params = s.params := rfl
@[simp] theorem receiverSends_env (b : Byte) :
    (receiverSends b s).env = { s.env with rxQueue := s.env.rxQueue ++ [b] } := rfl

/-! ### `drainQueue` -/

@[simp] theorem drainQueue_phase : (drainQueue s).phase = s.phase := rfl
@[simp] theorem drainQueue_hs : (drainQueue s).hs = s.hs := rfl
@[simp] theorem drainQueue_txidx : (drainQueue s).txidx = s.txidx := rfl
@[simp] theorem drainQueue_seq : (drainQueue s).seq = s.seq := rfl
@[simp] theorem drainQueue_bsel : (drainQueue s).bsel = s.bsel := rfl
@[simp] theorem drainQueue_kind : (drainQueue s).kind = s.kind := rfl
@[simp] theorem drainQueue_crc : (drainQueue s).crc = s.crc := rfl
@[simp] theorem drainQueue_pbuf : (drainQueue s).pbuf = s.pbuf := rfl
@[simp] theorem drainQueue_plen : (drainQueue s).plen = s.plen := rfl
@[simp] theorem drainQueue_pktlen : (drainQueue s).pktlen = s.pktlen := rfl
@[simp] theorem drainQueue_fsize : (drainQueue s).fsize = s.fsize := rfl
@[simp] theorem drainQueue_retry : (drainQueue s).retry = s.retry := rfl
@[simp] theorem drainQueue_status : (drainQueue s).status = s.status := rfl
@[simp] theorem drainQueue_lastResp : (drainQueue s).lastResp = s.lastResp := rfl
@[simp] theorem drainQueue_lastRespValid : (drainQueue s).lastRespValid = s.lastRespValid := rfl
@[simp] theorem drainQueue_fclosed : (drainQueue s).fclosed = s.fclosed := rfl
@[simp] theorem drainQueue_todo : (drainQueue s).todo = s.todo := rfl
@[simp] theorem drainQueue_params : (drainQueue s).params = s.params := rfl
@[simp] theorem drainQueue_env : (drainQueue s).env = { s.env with rxQueue := [] } := rfl

/-! ### `handOver` -/

@[simp] theorem handOver_phase (n : Nat) (data : List Byte) : (handOver n data s).phase = s.phase := rfl
@[simp] theorem handOver_hs (n : Nat) (data : List Byte) : (handOver n data s).hs = s.hs := rfl
@[simp] theorem handOver_txidx (n : Nat) (data : List Byte) : (handOver n data s).txidx = s.txidx := rfl
@[simp] theorem handOver_seq (n : Nat) (data : List Byte) : (handOver n data s).seq = s.seq := rfl
@[simp] theorem handOver_bsel (n : Nat) (data : List Byte) : (handOver n data s).bsel = s.bsel := rfl
@[simp] theorem handOver_kind (n : Nat) (data : List Byte) : (handOver n data s).kind = s.kind := rfl
@[simp] theorem handOver_crc (n : Nat) (data : List Byte) : (handOver n data s).crc = s.crc := rfl
@[simp] theorem handOver_pbuf (n : Nat) (data : List Byte) : (handOver n data s).pbuf = s.pbuf := rfl
@[simp] theorem handOver_plen (n : Nat) (data : List Byte) : (handOver n data s).plen = s.plen := rfl
@[simp] theorem handOver_pktlen (n : Nat) (data : List Byte) : (handOver n data s).pktlen = s.pktlen := rfl
@[simp] theorem handOver_fsize (n : Nat) (data : List Byte) : (handOver n data s).fsize = s.fsize := rfl
@[simp] theorem handOver_retry (n : Nat) (data : List Byte) : (handOver n data s).retry = s.retry := rfl
@[simp] theorem handOver_status (n : Nat) (data : List Byte) : (handOver n data s).status = s.status := rfl
@[simp] theorem handOver_lastResp (n : Nat) (data : List Byte) : (handOver n data s).lastResp = s.lastResp := rfl
@[simp] theorem handOver_lastRespValid (n : Nat) (data : List Byte) :
    (handOver n data s).lastRespValid = s.lastRespValid := rfl
@[simp] theorem handOver_fclosed (n : Nat) (data : List Byte) : (handOver n data s).fclosed = s.fclosed := rfl
@[simp] theorem handOver_todo (n : Nat) (data : List Byte) : (handOver n data s).todo = s.todo := rfl
@[simp] theorem handOver_params (n : Nat) (data : List Byte) : (handOver n data s).params = s.params := rfl
@[simp] theorem handOver_env (n : Nat) (data : List Byte) :
    (handOver n data s).env = { s.env with channelReady := true, crcModeRequested := true, rxQueue := [], file := { size := n, data := data, cursor := 0, isOpen := true } } := rfl

/-! ### Resets -/

@[simp] theorem resetCore_env : (resetCore s).env = s.env := rfl
@[simp] theorem resetCore_params : (resetCore s).params = s.params := rfl

end Sys2Proof.Machine
end

