-- ==== Sys2Proof/Laws/Memory.lean ====
section
/-!
SUPPORT. The payload buffer: every write keeps its canonical form; what a byte and a run read after a write
(spec/00_scope.md R13, spec/20_memory.md R61).
-/

namespace Sys2Proof.Machine

/-! ### The canonical form -/

theorem risingFrom_mono {lo lo' : Nat} {m : Memory} (h : risingFrom lo m = true) (hle : lo' ≤ lo) :
    risingFrom lo' m = true := by
  cases m with
  | nil => rfl
  | cons c m =>
    simp only [risingFrom, Bool.and_eq_true, decide_eq_true_eq] at h ⊢
    exact ⟨⟨by omega, h.1.2⟩, h.2⟩

theorem risingFrom_filter {p : Host.Cell → Bool} :
    ∀ {m : Memory} {lo : Nat}, risingFrom lo m = true → risingFrom lo (m.filter p) = true
  | [], _, _ => rfl
  | c :: m, lo, h => by
    simp only [risingFrom, Bool.and_eq_true, decide_eq_true_eq] at h
    have ih := risingFrom_filter (p := p) h.2
    by_cases hp : p c = true
    · simp only [List.filter_cons, hp, if_true, risingFrom, Bool.and_eq_true, decide_eq_true_eq]
      exact ⟨h.1, ih⟩
    · simp only [List.filter_cons, hp, if_false, Bool.false_eq_true]
      exact risingFrom_mono ih (by omega)

/-- A rising list whose indices stay below `n`, followed by one that rises from `n` on, rises. -/
theorem risingFrom_append {n : Nat} {m' : Memory} (h' : risingFrom n m' = true) :
    ∀ {m : Memory} {lo : Nat}, risingFrom lo m = true → (∀ c ∈ m, c.1 < n) → lo ≤ n →
      risingFrom lo (m ++ m') = true
  | [], _, _, _, hle => risingFrom_mono h' hle
  | c :: m, lo, h, hlt, _ => by
    simp only [risingFrom, Bool.and_eq_true, decide_eq_true_eq] at h
    simp only [List.cons_append, risingFrom, Bool.and_eq_true, decide_eq_true_eq]
    refine ⟨h.1, risingFrom_append h' h.2 (fun d hd => hlt d (List.mem_cons_of_mem _ hd)) ?_⟩
    exact hlt c List.mem_cons_self

theorem risingFrom_above {i : Nat} :
    ∀ {m : Memory} {lo : Nat}, risingFrom lo m = true →
      risingFrom i (m.filter fun c => i ≤ c.1) = true
  | [], _, _ => rfl
  | c :: m, lo, h => by
    simp only [risingFrom, Bool.and_eq_true, decide_eq_true_eq] at h
    by_cases hp : i ≤ c.1
    · simp only [List.filter_cons, hp, decide_true, if_true, risingFrom, Bool.and_eq_true, decide_eq_true_eq,
        true_and]
      exact ⟨h.1.2, risingFrom_filter h.2⟩
    · simp only [List.filter_cons, hp, decide_false, if_false, Bool.false_eq_true]
      exact risingFrom_above h.2

theorem risingFrom_cellsFrom : ∀ (bytes : List Byte) (i : Nat), i + bytes.length ≤ pbufSize →
    risingFrom i (cellsFrom i bytes) = true
  | [], _, _ => rfl
  | b :: bytes, i, h => by
    simp only [List.length_cons] at h
    simp only [cellsFrom, risingFrom, Bool.and_eq_true, decide_eq_true_eq]
    exact ⟨⟨Nat.le_refl i, by omega⟩, risingFrom_cellsFrom bytes (i + 1) (by omega)⟩

theorem mem_cellsFrom : ∀ {bytes : List Byte} {i : Nat} {c : Host.Cell}, c ∈ cellsFrom i bytes →
    i ≤ c.1 ∧ c.1 < i + bytes.length
  | b :: bytes, i, c, h => by
    simp only [cellsFrom, List.mem_cons] at h
    simp only [List.length_cons]
    rcases h with rfl | h
    · exact ⟨Nat.le_refl _, by omega⟩
    · have := mem_cellsFrom h
      omega

/-- Every write inside `PBUF` keeps the canonical form. -/
theorem memWrite_wf {m : Memory} {i : Nat} {bytes : List Byte} (hwf : m.wf = true)
    (hi : i + bytes.length ≤ pbufSize) : (memWrite m i bytes).wf = true := by
  have below : risingFrom 0 (m.filter fun c => c.1 < i) = true := risingFrom_filter hwf
  have above : risingFrom (i + bytes.length) (m.filter fun c => i + bytes.length ≤ c.1) = true :=
    risingFrom_above hwf
  have mid : risingFrom i (cellsFrom i bytes) = true := risingFrom_cellsFrom bytes i hi
  have midAbove := risingFrom_append above mid (fun c hc => (mem_cellsFrom hc).2) (Nat.le_add_right _ _)
  unfold Memory.wf memWrite
  rw [List.append_assoc]
  refine risingFrom_append midAbove below (fun c hc => ?_) (Nat.zero_le _)
  simpa using (List.mem_filter.mp hc).2

/-- The reset contents have the canonical form. -/
theorem wf_nil : Memory.wf [] = true := rfl

/-! ### One byte -/

theorem memByte_append (m m' : Memory) (a : Nat) :
    memByte (m ++ m') a = (memByte m a).or (memByte m' a) := by
  unfold memByte
  rw [List.find?_append]
  cases m.find? fun c => c.1 == a <;> rfl

theorem memByte_filter {p : Host.Cell → Bool} {a : Nat} (hp : ∀ b, p (a, b) = true) (m : Memory) :
    memByte (m.filter p) a = memByte m a := by
  induction m with
  | nil => rfl
  | cons c m ih =>
    obtain ⟨k, b⟩ := c
    by_cases hk : k = a
    · subst hk; simp [memByte, hp b]
    · by_cases hc : p (k, b) = true
      · have hne : (k == a) = false := by simp [hk]
        simpa [memByte, List.filter_cons, hc, List.find?_cons, hne] using ih
      · have hne : (k == a) = false := by simp [hk]
        simpa [memByte, List.filter_cons, hc, List.find?_cons, hne] using ih

theorem memByte_filter_out {p : Host.Cell → Bool} {a : Nat} (hp : ∀ b, p (a, b) = false) (m : Memory) :
    memByte (m.filter p) a = none := by
  unfold memByte
  rw [Option.map_eq_none_iff, List.find?_eq_none]
  rintro ⟨k, b⟩ hc heq
  have hk : k = a := by simpa using heq
  subst hk
  simp [List.mem_filter, hp b] at hc

theorem memByte_cellsFrom : ∀ (bytes : List Byte) (i a : Nat),
    memByte (cellsFrom i bytes) a = if i ≤ a then bytes[a - i]? else none
  | [], i, a => by simp [cellsFrom, memByte]
  | b :: bytes, i, a => by
    have ih := memByte_cellsFrom bytes (i + 1) a
    have hstep : memByte (cellsFrom i (b :: bytes)) a
        = if i = a then some b else memByte (cellsFrom (i + 1) bytes) a := by
      by_cases h : i = a <;> simp [cellsFrom, memByte, h]
    rw [hstep, ih]
    rcases Nat.lt_trichotomy i a with hlt | heq | hgt
    · obtain ⟨k, rfl⟩ := Nat.exists_eq_add_of_lt hlt
      have h1 : i ≠ i + k + 1 := by omega
      have h2 : i + 1 ≤ i + k + 1 := by omega
      have h3 : i ≤ i + k + 1 := by omega
      have h4 : i + k + 1 - i = k + 1 := by omega
      have h5 : i + k + 1 - (i + 1) = k := by omega
      simp [h1, h2, h3, h4, h5]
    · subst heq; simp
    · have h1 : i ≠ a := by omega
      have h2 : ¬ i + 1 ≤ a := by omega
      have h3 : ¬ i ≤ a := by omega
      simp [h1, h2, h3]

/-- What a byte reads after a run was written: the run's byte inside it, the old byte outside. -/
theorem memByte_memWrite (m : Memory) (i : Nat) (bytes : List Byte) (a : Nat) :
    memByte (memWrite m i bytes) a
      = if i ≤ a ∧ a < i + bytes.length then bytes[a - i]? else memByte m a := by
  unfold memWrite
  rw [memByte_append, memByte_append, memByte_cellsFrom]
  by_cases h1 : a < i
  · have hb : memByte (m.filter fun c => c.1 < i) a = memByte m a :=
      memByte_filter (fun _ => by simpa using h1) m
    have hn : memByte (m.filter fun c => i + bytes.length ≤ c.1) a = none :=
      memByte_filter_out (fun _ => by simp; omega) m
    rw [hb, hn, if_neg (by omega), if_neg (by omega)]
    cases memByte m a <;> rfl
  · have hb : memByte (m.filter fun c => c.1 < i) a = none :=
      memByte_filter_out (fun _ => by simp; omega) m
    rw [hb, if_pos (by omega)]
    by_cases h2 : a < i + bytes.length
    · have hn : memByte (m.filter fun c => i + bytes.length ≤ c.1) a = none :=
        memByte_filter_out (fun _ => by simp; omega) m
      rw [if_pos ⟨by omega, h2⟩, hn]
      cases bytes[a - i]? <;> rfl
    · have ha : memByte (m.filter fun c => i + bytes.length ≤ c.1) a = memByte m a :=
        memByte_filter (fun _ => by simp; omega) m
      rw [if_neg (by omega), ha, List.getElem?_eq_none (by omega)]
      cases memByte m a <;> rfl

/-! ### Runs -/

theorem memRead_cellsFrom : ∀ (bytes : List Byte) (i : Nat) (m : Memory),
    memRead (cellsFrom i bytes ++ m) i bytes.length = some bytes
  | [], _, m => by cases m <;> rfl
  | b :: bytes, i, m => by
    simp only [cellsFrom, List.cons_append, List.length_cons, memRead, Nat.lt_irrefl, if_false, if_true,
      memRead_cellsFrom bytes (i + 1) m, Option.map_some]

/-- A run that reads as `bytes` reads so byte by byte, where the buffer has its canonical form. -/
theorem memByte_of_memRead : ∀ {m : Memory} {i n lo : Nat} {bytes : List Byte},
    risingFrom lo m = true → memRead m i n = some bytes →
    bytes.length = n ∧ ∀ k, k < n → memByte m (i + k) = bytes[k]?
  | m, i, 0, _, bytes, _, h => by
    have : bytes = [] := by cases m <;> simpa [memRead] using h.symm
    subst this
    exact ⟨rfl, fun k hk => absurd hk (Nat.not_lt_zero k)⟩
  | [], i, n + 1, _, bytes, _, h => by simp [memRead] at h
  | (c, b) :: m, i, n + 1, lo, bytes, hr, h => by
    have hr' : risingFrom (c + 1) m = true := by
      simp only [risingFrom, Bool.and_eq_true] at hr; exact hr.2
    simp only [memRead] at h
    split at h
    · rename_i hlt
      obtain ⟨hl, hb⟩ := memByte_of_memRead hr' h
      refine ⟨hl, fun k hk => ?_⟩
      have hne : (c == i + k) = false := by simp; omega
      rw [← hb k hk]
      simp [memByte, hne]
    · split at h
      · rename_i _ heq
        subst heq
        obtain ⟨rest, hrest, rfl⟩ := Option.map_eq_some_iff.mp h
        obtain ⟨hl, hb⟩ := memByte_of_memRead hr' hrest
        refine ⟨by simp [hl], fun k hk => ?_⟩
        cases k with
        | zero => simp [memByte]
        | succ k =>
          have hne : (c == c + (k + 1)) = false := by simp
          have := hb k (by omega)
          rw [show c + 1 + k = c + (k + 1) by omega] at this
          simpa [memByte, List.find?_cons, hne] using this
      · cases h

/-- Below the least index nothing is listed. -/
theorem memByte_below : ∀ {m : Memory} {lo i : Nat}, risingFrom lo m = true → i < lo → memByte m i = none
  | [], _, _, _, _ => rfl
  | c :: m, lo, i, h, hi => by
    simp only [risingFrom, Bool.and_eq_true, decide_eq_true_eq] at h
    have hne : (c.1 == i) = false := by simp; omega
    have := memByte_below h.2 (i := i) (by omega)
    simpa [memByte, hne] using this

/-- A run each byte of which holds a value can be read. -/
theorem memRead_isSome : ∀ {m : Memory} {i n lo : Nat}, risingFrom lo m = true →
    (∀ k, k < n → (memByte m (i + k)).isSome = true) → (memRead m i n).isSome = true
  | m, i, 0, _, _, _ => by cases m <;> rfl
  | [], i, n + 1, _, _, h => by simpa [memByte] using h 0 (by omega)
  | (c, b) :: m, i, n + 1, lo, hr, h => by
    have hr' : risingFrom (c + 1) m = true := by
      simp only [risingFrom, Bool.and_eq_true] at hr; exact hr.2
    have hskip : ∀ a, a ≠ c → memByte ((c, b) :: m) a = memByte m a := fun a ha => by
      have hne : (c == a) = false := by simpa using Ne.symm ha
      simp [memByte, hne]
    rcases Nat.lt_trichotomy c i with hlt | rfl | hgt
    · simp only [memRead, hlt, if_true]
      refine memRead_isSome hr' fun k hk => ?_
      rw [← hskip _ (by omega)]
      exact h k hk
    · simp only [memRead, Nat.lt_irrefl, if_false, if_true, Option.isSome_map]
      refine memRead_isSome hr' fun k hk => ?_
      rw [← hskip _ (by omega), show c + 1 + k = c + (k + 1) by omega]
      exact h (k + 1) (by omega)
    · have := h 0 (by omega)
      rw [Nat.add_zero, hskip i (by omega), memByte_below hr' (by omega)] at this
      cases this

/-! ### A loaded and padded block -/

theorem cellsFrom_append : ∀ (xs ys : List Byte) (i : Nat),
    cellsFrom i (xs ++ ys) = cellsFrom i xs ++ cellsFrom (i + xs.length) ys
  | [], ys, i => by simp [cellsFrom]
  | x :: xs, ys, i => by
    simp only [List.cons_append, cellsFrom, cellsFrom_append xs ys (i + 1), List.length_cons,
      show i + 1 + xs.length = i + (xs.length + 1) by omega]

theorem padded_length {padByte : Byte} {bs : Nat} {src : List Byte} (h : src.length ≤ bs) :
    (padded padByte bs src).length = bs := by
  simp [padded]; omega

/-- `LOAD_PAYLOAD` and `PAD` together: the padded payload at indices 0 to `bs - 1`, the old bytes above
(R143, R144). -/
theorem load_pad_image {m : Memory} {padByte : Byte} {bs : Nat} {src : List Byte} (h : src.length ≤ bs) :
    memWrite (memWrite m 0 src) src.length (List.replicate (bs - src.length) padByte)
      = cellsFrom 0 (padded padByte bs src) ++ m.filter fun c => bs ≤ c.1 := by
  have hlow : ∀ c ∈ cellsFrom 0 src, (decide (c.1 < src.length)) = true := fun c hc => by
    have := (mem_cellsFrom hc).2
    simp only [decide_eq_true_eq]; omega
  have hhigh : ∀ c ∈ cellsFrom 0 src, (decide (bs ≤ c.1)) = false := fun c hc => by
    have := (mem_cellsFrom hc).2
    simp; omega
  have e : src.length + (bs - src.length) = bs := by omega
  simp only [memWrite, Nat.not_lt_zero, decide_false, List.filter_false, List.nil_append, Nat.zero_add,
    List.filter_append, List.length_replicate, e, padded, cellsFrom_append]
  have h1 : (List.filter (fun c => decide (c.1 < src.length))
      (List.filter (fun c => decide (src.length ≤ c.1)) m)) = [] := by
    rw [List.filter_filter, List.filter_eq_nil_iff]
    intro c _; simp
  have h2 : (List.filter (fun c => decide (bs ≤ c.1))
      (List.filter (fun c => decide (src.length ≤ c.1)) m)) = m.filter fun c => bs ≤ c.1 := by
    rw [List.filter_filter]
    refine List.filter_congr fun c _ => ?_
    simp; omega
  have h3 : (cellsFrom 0 src).filter (fun c => decide (bs ≤ c.1)) = [] := by
    rw [List.filter_eq_nil_iff]
    intro c hc
    rw [hhigh c hc]
    simp
  rw [h1, h2, h3, List.filter_eq_self.mpr hlow]
  simp

end Sys2Proof.Machine
end

