-- ==== Sys2Proof/Laws/Ops.lean ====
section
/-!
SUPPORT. What the shared operations can do, each said once: the guard of every instruction, the ends of an
operation, loading and building a unit, one turn of `SEND`, and the handshake's answer to the sequencer.
-/

namespace Sys2Proof.Machine

variable {s t : State}

/-! ### The guard of every instruction -/

theorem reservedCode_eq_none :
    s.reservedCode = none ↔ s.phase ≠ .reserved7 ∧ s.hs.isReserved = false ∧ s.status ≠ .reserved7 := by
  unfold State.reservedCode
  by_cases h1 : s.phase = .reserved7
  · simp [h1]
  · by_cases h2 : s.hs.isReserved = true
    · simp [h1, h2]
    · by_cases h3 : s.status = .reserved7 <;> simp [h1, h2, h3]

theorem atControl_of {c : Bool} {k : Out} (hr : s.reservedCode = none) (hc : c = true) : atControl s c k = k := by
  simp [atControl, hr, hc]

/-- An instruction that answers a next state was at its control point. -/
theorem atControl_next {c : Bool} {k : Out} :
    atControl s c k = .next t ↔ s.reservedCode = none ∧ c = true ∧ k = .next t := by
  unfold atControl
  cases s.reservedCode with
  | some f => simp
  | none => cases c <;> simp

/-- An instruction that faults found a reserved code, or its meaning faults. -/
theorem atControl_fault {c : Bool} {k : Out} {f : Fault} (h : atControl s c k = .fault f) :
    s.reservedCode = some f ∨ (s.reservedCode = none ∧ c = true ∧ k = .fault f) := by
  unfold atControl at h
  cases hr : s.reservedCode with
  | some g => rw [hr] at h; cases h; exact .inl rfl
  | none => rw [hr] at h; cases c <;> simp_all

/-- An instruction that is refused was not at its control point, or its meaning refuses. -/
theorem atControl_refused {c : Bool} {k : Out} {r : Refusal} (h : atControl s c k = .refused r) :
    s.reservedCode = none ∧ ((c = false ∧ r = .notAtControlPoint) ∨ (c = true ∧ k = .refused r)) := by
  unfold atControl at h
  cases hr : s.reservedCode with
  | some g => rw [hr] at h; cases h
  | none => rw [hr] at h; cases c <;> simp_all

@[simp] theorem isAt_iff {p : Phase} {h : Hs} : s.isAt p h = true ↔ s.phase = p ∧ s.hs = h := by
  simp [State.isAt]

@[simp] theorem reads_iff {h : Hs} {b : Byte} :
    s.reads h b = true ↔ (s.phase.isBusy = true ∧ s.hs = h) ∧ s.rxAnswer = .byte b := by
  simp [State.reads, State.busy]

/-! ### How an operation ends -/

@[simp] theorem andThen_go (k : State → Flow) : (Flow.go s).andThen k = k s := rfl
@[simp] theorem andThen_raise (st : Status) (k : State → Flow) : (Flow.raise st s).andThen k = .raise st s := rfl
@[simp] theorem andThen_fault (f : Fault) (k : State → Flow) : (Flow.fault f).andThen k = .fault f := rfl
@[simp] theorem andThen_refuse (e : Refusal) (k : State → Flow) : (Flow.refuse e).andThen k = .refuse e := rfl
@[simp] theorem out_go : (Flow.go s).out = .next s := rfl
@[simp] theorem out_raise (st : Status) : (Flow.raise st s).out = .next (raiseAbort st s) := rfl
@[simp] theorem out_fault (f : Fault) : (Flow.fault f).out = .fault f := rfl
@[simp] theorem out_refuse (e : Refusal) : (Flow.refuse e).out = .refused e := rfl

@[simp] theorem thenTodo_go (d : Todo) : (Flow.go s).thenTodo d = .go { s with todo := d } := rfl
@[simp] theorem thenTodo_raise (st : Status) (d : Todo) : (Flow.raise st s).thenTodo d = .raise st s := rfl

/-- An operation answers a next state by going on or by an abort. -/
theorem out_next {r : Flow} :
    r.out = .next t ↔ r = .go t ∨ ∃ st u, r = .raise st u ∧ t = raiseAbort st u := by
  cases r with
  | go u => simp [Flow.out]
  | raise st u => simp [Flow.out, eq_comm]
  | fault f => simp [Flow.out]
  | refuse e => simp [Flow.out]

/-! ### Loading and building a unit -/

theorem blockSize_cases (s : State) : s.blockSize = 128 ∨ s.blockSize = 1024 := by
  unfold State.blockSize
  cases s.bsel
  · exact .inl rfl
  · exact .inr rfl

theorem blockSize_le (s : State) : s.blockSize ≤ 1024 := by
  rcases blockSize_cases s with h | h <;> omega

@[simp] theorem blockSize_of_bsel_true (h : s.bsel = true) : s.blockSize = 1024 := by
  simp [State.blockSize, h, Config.bsData]

@[simp] theorem blockSize_of_bsel_false (h : s.bsel = false) : s.blockSize = 128 := by
  simp [State.blockSize, h, Config.bsHdr]

/-- `src` is loaded (R143). -/
def loaded (src : List Byte) (s : State) : State :=
  { s with pbuf := memWrite s.pbuf 0 src, plen := BitVec.ofNat 11 src.length }

/-- The block `payload` is built into a unit that is about to be sent (R148, R171, R180). -/
def sending (payload : List Byte) (s : State) : State :=
  { s with
    crc := crc16 payload Config.crcInitial
    pktlen := BitVec.ofNat 11 (s.blockSize + 5)
    retry := 0
    txidx := 0#11
    hs := .tx
    todo := .none }

/-- The unit of the payload `src`, loaded, padded, built and about to be sent (R143, R144, R148, R171). -/
def unitOf (src : List Byte) (s : State) : State :=
  { s with
    pbuf := cellsFrom 0 (padded s.params.padByte s.blockSize src) ++ s.pbuf.filter fun c => s.blockSize ≤ c.1
    plen := BitVec.ofNat 11 src.length
    crc := crc16 (padded s.params.padByte s.blockSize src) Config.crcInitial
    pktlen := BitVec.ofNat 11 (s.blockSize + 5)
    retry := 0
    txidx := 0#11
    hs := .tx
    todo := .none }

/-- What `LOAD_PAYLOAD(src)` can do: the length is checked first (R143). -/
theorem loadPayload_eq (src : List Byte) (s : State) :
    loadPayload src s = if src.length ≤ s.blockSize then .go (loaded src s) else .raise .framingError s := by
  unfold loadPayload loaded
  by_cases h : s.blockSize < src.length
  · simp [h, Nat.not_le.mpr h]
  · simp [h, Nat.not_lt.mp h]

/-- What `BUILD_PACKET` and the beginning of `HANDSHAKE` can do: `LENGTH_CHECK` never fails (R148, R150). -/
theorem buildAndSend_eq (s : State) :
    buildAndSend s = match memRead s.pbuf 0 s.blockSize with
      | none => .fault .noValue
      | some payload => .go (sending payload s) := by
  unfold buildAndSend buildPacket
  cases memRead s.pbuf 0 s.blockSize with
  | none => rfl
  | some payload =>
    have hbs := blockSize_le s
    have hpkt : (BitVec.ofNat 11 (s.blockSize + 5)).toNat = s.blockSize + 5 := by
      simp only [BitVec.toNat_ofNat]; omega
    have hb : State.blockSize
        { runCrc16 payload Config.crcInitial s with pktlen := BitVec.ofNat 11 (s.blockSize + 5) } = s.blockSize := rfl
    simp only [lengthCheck, hb]
    rw [if_neg fun hne => hne.2 hpkt]
    rfl

theorem buildAndSend_some {payload : List Byte} (h : memRead s.pbuf 0 s.blockSize = some payload) :
    buildAndSend s = .go (sending payload s) := by rw [buildAndSend_eq, h]

/-- `PAD` after `LOAD_PAYLOAD`: the padded payload below the block size, the old bytes above it (R143, R144). -/
theorem pad_loaded {src : List Byte} (h : src.length ≤ s.blockSize) :
    pad (loaded src s) = { s with
      pbuf := cellsFrom 0 (padded s.params.padByte s.blockSize src) ++ s.pbuf.filter fun c => s.blockSize ≤ c.1
      plen := BitVec.ofNat 11 src.length } := by
  have hbs := blockSize_le s
  have hplen : (BitVec.ofNat 11 src.length).toNat = src.length := by
    simp only [BitVec.toNat_ofNat]; omega
  have hb : (loaded src s).blockSize = s.blockSize := rfl
  simp only [pad, hb]
  simp only [loaded, hplen, load_pad_image h]

/-- A payload that fits its block is loaded, padded, built and begun to be sent; nothing can stop it. -/
theorem load_pad_build {src : List Byte} (h : src.length ≤ s.blockSize) (a b : Todo) :
    buildAndSend { pad { loaded src s with todo := a } with todo := b } = .go (unitOf src s) := by
  have hp : ({ pad { loaded src s with todo := a } with todo := b } : State)
      = { s with
          pbuf := cellsFrom 0 (padded s.params.padByte s.blockSize src) ++ s.pbuf.filter fun c => s.blockSize ≤ c.1
          plen := BitVec.ofNat 11 src.length
          todo := b } := by
    have := congrArg (fun u : State => { u with todo := b }) (pad_loaded h)
    exact this
  have hread : memRead (cellsFrom 0 (padded s.params.padByte s.blockSize src)
        ++ s.pbuf.filter fun c => s.blockSize ≤ c.1) 0 s.blockSize
      = some (padded s.params.padByte s.blockSize src) := by
    have := memRead_cellsFrom (padded s.params.padByte s.blockSize src) 0
      (s.pbuf.filter fun c => s.blockSize ≤ c.1)
    rwa [padded_length h] at this
  rw [hp]
  exact buildAndSend_some hread

@[simp] theorem unitOf_blockSize (src : List Byte) (s : State) : (unitOf src s).blockSize = s.blockSize := rfl

/-- The payload buffer of a unit just built holds the padded payload. -/
theorem unitOf_memRead {src : List Byte} (h : src.length ≤ s.blockSize) :
    memRead (unitOf src s).pbuf 0 s.blockSize = some (padded s.params.padByte s.blockSize src) := by
  have := memRead_cellsFrom (padded s.params.padByte s.blockSize src) 0 (s.pbuf.filter fun c => s.blockSize ≤ c.1)
  rwa [padded_length h] at this

/-- Byte by byte: the padded payload inside the block, the old bytes above it. -/
theorem unitOf_memByte {src : List Byte} (h : src.length ≤ s.blockSize) (a : Nat) :
    memByte (unitOf src s).pbuf a
      = if a < s.blockSize then (padded s.params.padByte s.blockSize src)[a]? else memByte s.pbuf a := by
  have hl := padded_length (padByte := s.params.padByte) h
  have e : (unitOf src s).pbuf = memWrite s.pbuf 0 (padded s.params.padByte s.blockSize src) := by
    simp [unitOf, memWrite, hl]
  rw [e, memByte_memWrite, hl]
  simp

theorem unitOf_wf {src : List Byte} (h : src.length ≤ s.blockSize) (hwf : s.pbuf.wf = true) :
    (unitOf src s).pbuf.wf = true := by
  have hl := padded_length (padByte := s.params.padByte) h
  have e : (unitOf src s).pbuf = memWrite s.pbuf 0 (padded s.params.padByte s.blockSize src) := by
    simp [unitOf, memWrite, hl]
  rw [e]
  exact memWrite_wf hwf (by rw [hl]; have := blockSize_le s; simp [pbufSize]; omega)

/-! ### The file's transactions and the internal operations -/

/-- What `SIZE_PROBE` can do (R203). -/
theorem sizeProbe_cases (s : State) :
    (s.sizeAnswer = .err ∧ sizeProbe s = .raise .channelOrFileError s.sizeAnswered)
    ∨ (s.sizeAnswer = .hold ∧ sizeProbe s = .go s.sizeAnswered)
    ∨ (s.sizeAnswer = .never ∧ sizeProbe s = .go s)
    ∨ (s.sizeAnswer = .answer ∧ ¬ s.env.file.size < 2 ^ s.params.sizeBits ∧ sizeProbe s = .refuse .fileTooLong)
    ∨ (s.sizeAnswer = .answer ∧ s.env.file.size < 2 ^ s.params.sizeBits
        ∧ sizeProbe s = .go { s.sizeAnswered with fsize := s.env.file.size, todo := .hdrSend }) := by
  unfold sizeProbe
  cases s.sizeAnswer with
  | err => simp
  | hold => simp
  | never => simp
  | answer => by_cases h : s.env.file.size < 2 ^ s.params.sizeBits <;> simp [h]

/-- What a `FileRead` can return: the next bytes from the cursor, and none only at the end of the file (R25, R63). -/
theorem readAnswer_chunk {s : State} {bytes : List Byte} (h : s.readAnswer = .chunk bytes) :
    bytes = (s.env.file.data.drop s.env.file.cursor).take bytes.length
      ∧ (bytes = [] → s.env.file.data.length ≤ s.env.file.cursor) := by
  obtain ⟨n, rfl⟩ : ∃ n, bytes = (s.env.file.data.drop s.env.file.cursor).take (n + 1) := by
    unfold State.readAnswer at h
    split at h <;> cases h
    · exact ⟨1023, rfl⟩
    · exact ⟨_, rfl⟩
  refine ⟨by simp, fun hn => ?_⟩
  simpa using hn

/-- What `DATA_READ` can do (R206). -/
theorem dataRead_cases (s : State) :
    (s.readAnswer = .err ∧ dataRead s = .raise .channelOrFileError s.readFailed)
    ∨ (s.readAnswer = .hold ∧ dataRead s = .go s.readHeld)
    ∨ (s.readAnswer = .never ∧ dataRead s = .go s)
    ∨ (s.readAnswer = .chunk [] ∧ dataRead s = .go { s.readTook 0 with todo := .eotSend })
    ∨ ∃ chunk, chunk ≠ [] ∧ s.readAnswer = .chunk chunk
        ∧ dataRead s = .go { s.readTook chunk.length with todo := .dataSend chunk } := by
  unfold dataRead
  cases s.readAnswer with
  | err => simp
  | hold => simp
  | never => simp
  | chunk bytes => by_cases h : bytes = [] <;> simp [h]

/-- What `DATA_SEND(chunk)` can do before `PAD` (R207). -/
theorem dataSend_eq (chunk : List Byte) (s : State) :
    dataSend chunk s =
      if chunk.length ≤ s.blockSize then .go { loaded chunk { s with kind := .data } with todo := .pad }
      else .raise .framingError { s with kind := .data } := by
  have hb : State.blockSize { s with kind := .data } = s.blockSize := rfl
  unfold dataSend
  rw [loadPayload_eq, hb]
  split <;> rfl

/-- What an internal operation can do, by the one that is next (R203 to R212). -/
theorem runTodo_cases (s : State) :
    (s.todo = .none ∧ runTodo s = .go s)
    ∨ (s.todo = .hdrSend ∧ runTodo s = .go (hdrSend s))
    ∨ (s.todo = .hdrEncode ∧ runTodo s =
        if (headerFields s.params.logicalName s.fsize).length ≤ s.blockSize then
          .go { loaded (headerFields s.params.logicalName s.fsize) s with todo := .pad }
        else .raise .framingError s)
    ∨ (∃ chunk, s.todo = .dataSend chunk ∧ runTodo s =
        if chunk.length ≤ s.blockSize then .go { loaded chunk { s with kind := .data } with todo := .pad }
        else .raise .framingError { s with kind := .data })
    ∨ (s.todo = .eotSend ∧ runTodo s = .go (eotSend s))
    ∨ (s.todo = .finEncode ∧ runTodo s = .go { loaded (headerFields [] 0) s with todo := .pad })
    ∨ (s.todo = .pad ∧ runTodo s = .go { pad s with todo := .buildPacket })
    ∨ (s.todo = .buildPacket ∧ runTodo s = match memRead s.pbuf 0 s.blockSize with
        | none => .fault .noValue
        | some payload => .go (sending payload s))
    ∨ ∃ r, s.todo = .resp r ∧ runTodo s = .go (respond r s) := by
  have then_if (c : Prop) [Decidable c] (u v : State) :
      (if c then Flow.go u else .raise .framingError v).thenTodo .pad
        = if c then .go { u with todo := .pad } else .raise .framingError v := by
    split <;> rfl
  have hfin : (headerFields [] 0).length ≤ s.blockSize := by
    have : (headerFields [] 0).length = 3 := by decide
    rcases blockSize_cases s with hs | hs <;> omega
  obtain ⟨d, h⟩ : ∃ d, s.todo = d := ⟨_, rfl⟩
  cases d with
  | none => simp [runTodo, h]
  | hdrSend => simp [runTodo, h]
  | hdrEncode => simp [runTodo, h, hdrEncode, loadPayload_eq, then_if]
  | dataSend chunk =>
    have e : runTodo s = dataSend chunk s := by unfold runTodo; rw [h]
    exact .inr (.inr (.inr (.inl ⟨chunk, h, e.trans (dataSend_eq chunk s)⟩)))
  | eotSend => simp [runTodo, h]
  | finEncode => simp [runTodo, h, finEncode, loadPayload_eq, hfin]
  | pad => simp [runTodo, h]
  | buildPacket => simp [runTodo, h, buildAndSend_eq]
  | resp r => simp [runTodo, h]

/-! ### One turn of SEND -/

/-- What one turn of `SEND`'s loop can do where it answers a next state (R171). -/
theorem sendByte_next (h : sendByte s = .next t) :
    (s.txidx < s.pktlen ∧ ∃ b, s.packetByte s.txidx.toNat = .ok b ∧
      ((s.txAnswer = .accept ∧ t = byteSent (s.txWritten b))
        ∨ (s.txAnswer = .err ∧ t = raiseAbort .channelOrFileError s.txAnswered)
        ∨ (s.txAnswer = .hold ∧ t = s.txAnswered)
        ∨ (s.txAnswer = .never ∧ t = s)))
    ∨ (¬ s.txidx < s.pktlen ∧ t = { s with hs := .wait }) := by
  unfold sendByte at h
  split at h
  · rename_i hlt
    refine .inl ⟨hlt, ?_⟩
    cases hb : s.packetByte s.txidx.toNat with
    | error f => rw [hb] at h; cases h
    | ok b =>
      rw [hb] at h
      refine ⟨b, rfl, ?_⟩
      cases ha : s.txAnswer <;> rw [ha] at h <;> cases h <;> simp
  · rename_i hlt
    cases h
    exact .inr ⟨hlt, rfl⟩

theorem sendByte_fault {f : Fault} (h : sendByte s = .fault f) : s.packetByte s.txidx.toNat = .error f := by
  unfold sendByte at h
  split at h
  · cases hb : s.packetByte s.txidx.toNat with
    | error g => rw [hb] at h; cases h; rfl
    | ok b => rw [hb] at h; cases ha : s.txAnswer <;> rw [ha] at h <;> cases h
  · cases h

theorem sendByte_not_refused {r : Refusal} : sendByte s ≠ .refused r := by
  unfold sendByte
  intro h
  split at h
  · cases hb : s.packetByte s.txidx.toNat with
    | error g => rw [hb] at h; cases h
    | ok b => rw [hb] at h; cases ha : s.txAnswer <;> rw [ha] at h <;> cases h
  · cases h

/-! ### The answer to the sequencer -/

/-- What the sequencer does with a response, by phase (R205, R208, R210, R212). -/
theorem respond_cases (r : Resp) (s : State) :
    (s.phase = .headerSent ∧ respond r s = hdrResp r { s with todo := .none })
    ∨ (s.phase = .dataLoop ∧ respond r s = dataResp r { s with todo := .none })
    ∨ (s.phase = .eotSent ∧ respond r s = eotResp r { s with todo := .none })
    ∨ (s.phase = .finSent ∧ respond r s = { s with todo := .none })
    ∨ (s.phase.isBusy = false ∧ respond r s = { s with todo := .none }) := by
  unfold respond finResp
  cases h : s.phase <;> simp [Phase.isBusy]

end Sys2Proof.Machine
end

