-- ==== Sys2Proof/Laws/PerInstr.lean ====
section
/-!
SUPPORT. Statements for all instructions, made one instruction at a time. `RowMatch`: the bytes of a well-formed
instruction fit its row of spec/opcode_table.json (spec/30_encoding.md R99), in their first byte and in their number.
-/

namespace Sys2Proof.Laws.RowMatch

/-- The row's match and mask on the first byte. -/
def row : Instr → Byte × Byte
  | .pkt128Hdr => (0x01#8, 0xFF#8)
  | .pkt1024Data => (0x02#8, 0xFF#8)
  | .eot => (0x04#8, 0xFF#8)
  | .pkt128Fin => (0x01#8, 0xFF#8)
  | .rxAck => (0x06#8, 0xFF#8)
  | .rxCa => (0x18#8, 0xFF#8)
  | .rxNak => (0x15#8, 0xFF#8)
  | .rxOther _ => (0x00#8, 0x00#8)
  | .rxCa2Any _ => (0x00#8, 0x00#8)
  | .rxExtraAny _ => (0x00#8, 0x00#8)
  | .hostStart => (0x01#8, 0x01#8)

/-- The row's length in bytes; the extra byte may be absent, the host command is one bit in a byte. -/
def rowLength : Instr → Nat
  | .pkt128Hdr => 133
  | .pkt1024Data => 1029
  | .eot => 1
  | .pkt128Fin => 133
  | .rxAck => 1
  | .rxCa => 1
  | .rxNak => 1
  | .rxOther _ => 1
  | .rxCa2Any _ => 1
  | .rxExtraAny o => o.toList.length
  | .hostStart => 1

/-- The first byte fits the row's match and mask, and the length is the row's. -/
def Statement (i : Instr) : Prop :=
  ∀ f : WireFields, f.wellFormed i = true →
    (encode f i).length = rowLength i ∧ ∀ b, (encode f i).head? = some b → b &&& (row i).2 = (row i).1

theorem encodePacket_head (mark : Byte) (f : WireFields) : (encodePacket mark f).head? = some mark := rfl

theorem encodePacket_length (mark : Byte) (f : WireFields) :
    (encodePacket mark f).length = f.payload.length + 5 := by
  simp [encodePacket, packetBytes, seqEncode, Machine.crcField]

theorem and_ones (b : Byte) : b &&& 0xFF#8 = b := BitVec.and_allOnes

theorem and_zero (b : Byte) : b &&& 0x00#8 = 0x00#8 := BitVec.and_zero

theorem pkt128Hdr : Statement .pkt128Hdr := fun f h => by
  have hl : f.payload.length = 128 := by
    simp only [WireFields.wellFormed, Bool.and_eq_true, beq_iff_eq] at h; exact h.1.2
  refine ⟨by simp only [encode, encodePacket_length, hl, rowLength], fun b hb => ?_⟩
  rw [encode, encodePacket_head] at hb
  cases hb
  rfl

theorem pkt1024Data : Statement .pkt1024Data := fun f h => by
  have hl : f.payload.length = 1024 := by
    simp only [WireFields.wellFormed, beq_iff_eq] at h; exact h
  refine ⟨by simp only [encode, encodePacket_length, hl, rowLength], fun b hb => ?_⟩
  rw [encode, encodePacket_head] at hb
  cases hb
  rfl

theorem eot : Statement .eot := fun _ _ => ⟨rfl, fun b hb => by cases hb; rfl⟩

theorem pkt128Fin : Statement .pkt128Fin := fun f h => by
  have hl : f.payload.length = 128 := by
    simp only [WireFields.wellFormed, Bool.and_eq_true, beq_iff_eq] at h; exact h.1.2
  refine ⟨by simp only [encode, encodePacket_length, hl, rowLength], fun b hb => ?_⟩
  rw [encode, encodePacket_head] at hb
  cases hb
  rfl

theorem rxAck : Statement .rxAck := fun _ _ => ⟨rfl, fun b hb => by cases hb; rfl⟩

theorem rxCa : Statement .rxCa := fun _ _ => ⟨rfl, fun b hb => by cases hb; rfl⟩

theorem rxNak : Statement .rxNak := fun _ _ => ⟨rfl, fun b hb => by cases hb; rfl⟩

theorem rxOther (b : Byte) : Statement (.rxOther b) := fun _ _ => ⟨rfl, fun c _ => and_zero c⟩

theorem rxCa2Any (b : Byte) : Statement (.rxCa2Any b) := fun _ _ => ⟨rfl, fun c _ => and_zero c⟩

theorem rxExtraAny (o : Option Byte) : Statement (.rxExtraAny o) := fun _ _ => ⟨rfl, fun c _ => and_zero c⟩

theorem hostStart : Statement .hostStart := fun _ _ => ⟨rfl, fun b hb => by cases hb; rfl⟩

end Sys2Proof.Laws.RowMatch
end

