-- ==== Sys2Proof/Laws/Step.lean ====
section
/-!
SUPPORT. What each instruction and one step can do, each said once as an inversion lemma; invariants and frames are
derived from these instead of unfolding `exec` or `step`.
-/

namespace Sys2Proof.Machine

variable {s t : State}

theorem next_eq_next {a b : State} : (Host.Outcome.next a : Out) = .next b ↔ b = a :=
  ⟨fun h => by cases h; rfl, fun h => by rw [h]⟩

/-! ### The transmitted forms -/

/-- What one step of a transmitted form can do. -/
theorem unitStep_next {first : State → Flow} :
    unitStep first s = .next t ↔ (s.hs = .tx ∧ sendByte s = .next t)
      ∨ (s.hs ≠ .tx ∧ s.todo = .none ∧ (first s).out = .next t)
      ∨ (s.hs ≠ .tx ∧ s.todo ≠ .none ∧ (runTodo s).out = .next t) := by
  unfold unitStep
  by_cases h : s.hs = .tx <;> by_cases h2 : s.todo = .none <;> simp [h, h2]

theorem isResp_none : Todo.isResp .none = false := rfl

theorem isResp_iff : s.todo.isResp = true ↔ AnswerPending s := by
  cases h : s.todo <;> simp [Todo.isResp, AnswerPending, h]

theorem isResp_false_iff : s.todo.isResp = false ↔ ¬ AnswerPending s := by
  rw [← isResp_iff]; simp

theorem eotNext_iff : s.eotNext = true ↔ EotNext s := by
  simp [State.eotNext, EotNext]

theorem eotNext_false_iff : s.eotNext = false ↔ ¬ EotNext s := by
  rw [← eotNext_iff]; simp

theorem execPkt128Hdr_next :
    execPkt128Hdr s = .next t ↔ s.reservedCode = none ∧ Enabled .pkt128Hdr s ∧ unitStep sizeProbe s = .next t := by
  unfold execPkt128Hdr
  rw [atControl_next]
  simp only [Bool.or_eq_true, Bool.and_eq_true, isAt_iff, Bool.not_eq_true', isResp_false_iff, Enabled]
  refine and_congr_right fun _ => and_congr_left fun _ => ?_
  tauto

theorem execPkt1024Data_next :
    execPkt1024Data s = .next t ↔ s.reservedCode = none ∧ Enabled .pkt1024Data s ∧ unitStep dataRead s = .next t := by
  unfold execPkt1024Data
  rw [atControl_next]
  simp only [Bool.or_eq_true, Bool.and_eq_true, isAt_iff, Bool.not_eq_true', isResp_false_iff, eotNext_false_iff,
    Enabled]
  refine and_congr_right fun _ => and_congr_left fun _ => ?_
  tauto

theorem execEot_next :
    execEot s = .next t ↔ s.reservedCode = none ∧ Enabled .eot s ∧ unitStep dataRead s = .next t := by
  unfold execEot
  rw [atControl_next]
  simp only [Bool.or_eq_true, Bool.and_eq_true, isAt_iff, eotNext_iff, Enabled]
  refine and_congr_right fun _ => and_congr_left fun _ => ?_
  tauto

theorem execPkt128Fin_next :
    execPkt128Fin s = .next t ↔ s.reservedCode = none ∧ Enabled .pkt128Fin s
      ∧ unitStep (fun u => .go (finSend u)) s = .next t := by
  unfold execPkt128Fin
  rw [atControl_next]
  simp only [Bool.or_eq_true, Bool.and_eq_true, isAt_iff, Bool.not_eq_true', isResp_false_iff, bne_iff_ne, Enabled]
  refine and_congr_right fun _ => and_congr_left fun _ => ?_
  tauto

/-! ### The received bytes -/

theorem execRxAck_next :
    execRxAck s = .next t ↔ s.reservedCode = none ∧ s.phase.isBusy = true ∧ s.hs = .wait
      ∧ s.rxAnswer = .byte Config.ack
      ∧ t = if s.gate then { awaited Config.ack s with hs := .probe } else returned .ack (awaited Config.ack s) := by
  unfold execRxAck
  rw [atControl_next]
  simp only [reads_iff, and_assoc, next_eq_next]

theorem execRxCa_next :
    execRxCa s = .next t ↔ s.reservedCode = none ∧ s.phase.isBusy = true ∧ s.hs = .wait
      ∧ s.rxAnswer = .byte Config.ca ∧ t = { awaited Config.ca s with hs := .ca2 } := by
  unfold execRxCa
  rw [atControl_next]
  simp only [reads_iff, and_assoc, next_eq_next]

theorem execRxNak_next :
    execRxNak s = .next t ↔ s.reservedCode = none ∧ s.phase.isBusy = true ∧ s.hs = .wait
      ∧ s.rxAnswer = .byte Config.nak
      ∧ t = if s.kind ≠ .fin ∧ s.retry < s.params.maxRetries then
          beginSend false { awaited Config.nak s with retry := s.retry + 1 }
        else returned (.other Config.nak) (awaited Config.nak s) := by
  unfold execRxNak
  rw [atControl_next]
  simp only [reads_iff, and_assoc, next_eq_next]

theorem execRxOther_next {b : Byte} :
    execRxOther b s = .next t ↔ s.reservedCode = none ∧ s.phase.isBusy = true ∧ s.hs = .wait
      ∧ s.rxAnswer = .byte b ∧ t = returned (.other b) (awaited b s) := by
  unfold execRxOther
  rw [atControl_next]
  simp only [reads_iff, and_assoc, next_eq_next]

theorem execRxCa2Any_next {b : Byte} :
    execRxCa2Any b s = .next t ↔ s.reservedCode = none ∧ s.phase.isBusy = true ∧ s.hs = .ca2
      ∧ s.rxAnswer = .byte b ∧ t = returned .cancel (s.rxTook b) := by
  unfold execRxCa2Any
  rw [atControl_next]
  simp only [reads_iff, and_assoc, next_eq_next]

theorem execRxExtraAny_next {o : Option Byte} :
    execRxExtraAny o s = .next t ↔ s.reservedCode = none ∧ s.phase.isBusy = true ∧ s.hs = .probe
      ∧ s.pollAnswer = .got o ∧ t = returned .ack (s.pollTook o) := by
  unfold execRxExtraAny
  rw [atControl_next]
  simp only [State.busy, Bool.and_eq_true, beq_iff_eq, and_assoc, next_eq_next]

/-! ### The host command -/

/-- Which launches are not refused for a premise of R272. -/
theorem launchable_iff :
    s.launchable = true ↔ s.env.channelReady = true ∧ s.env.crcModeRequested = true
      ∧ (s.env.rxQueue = [] ∨ s.env.staleRxAdmitted = true) ∧ s.fileAtZero = true := by
  simp [State.launchable, State.rxQueueEmpty, and_assoc]

/-- While no stale bytes are admitted, a launch needs exactly the four premises of R272. -/
theorem launchable_iff_premises (h : s.env.staleRxAdmitted = false) : s.launchable = true ↔ LaunchPremises s := by
  rw [launchable_iff]
  simp only [h, Bool.false_eq_true, or_false]
  exact ⟨fun ⟨a, b, c, d⟩ => ⟨a, b, c, d⟩, fun ⟨a, b, c, d⟩ => ⟨a, b, c, d⟩⟩

theorem execHostStart_next :
    execHostStart s = .next t ↔ s.reservedCode = none ∧ s.env.sched.head? = some .hostStart ∧
      ((s.phase.isBusy = true ∧ t = s.moved)
        ∨ (s.phase.isBusy = false ∧ s.params.wellFormed = true ∧ s.launchable = true
            ∧ t = sessionStart s.moved)) := by
  unfold execHostStart
  rw [atControl_next]
  cases hb : s.phase.isBusy <;> cases hw : s.params.wellFormed <;> cases hl : s.launchable <;>
    simp [State.busy, hb, eq_comm (b := t)]

/-! ### One step -/

/-- The core's own step at `u`. -/
def coreStep (u : State) : Out :=
  match coreFetch u with
  | .run i v => exec i v
  | .own o => o

/-- The state at which the core takes its turn: the schedule's `core` move is made. -/
def turn (s : State) : State := if s.env.sched = [] then s else s.moved

/-- In the core's turn a step is the core's own, at `turn s`. -/
theorem step_coreTurn (h : CoreTurn s) (hr : s.reservedCode = none) : step s = coreStep (turn s) := by
  rcases h with h | h
  · cases hc : coreFetch s <;> simp [step, fetch, h, hr, turn, coreStep, hc]
  · obtain ⟨rest, hs⟩ : ∃ rest, s.env.sched = .core :: rest := by
      cases hsch : s.env.sched with
      | nil => simp [hsch] at h
      | cons m rest => simp [hsch] at h; exact ⟨rest, by rw [h]⟩
    have hne : s.env.sched ≠ [] := by simp [hs]
    rw [turn, if_neg hne]
    cases hc : coreFetch s.moved <;> simp [step, fetch, hs, hr, coreStep, hc]

/-- In the core's turn a reserved code is a fault (R241). -/
theorem step_coreTurn_reserved {f : Fault} (h : CoreTurn s) (hr : s.reservedCode = some f) : step s = .fault f := by
  rcases h with h | h
  · simp [step, fetch, h, hr]
  · obtain ⟨rest, hs⟩ : ∃ rest, s.env.sched = .core :: rest := by
      cases hsch : s.env.sched with
      | nil => simp [hsch] at h
      | cons m rest => simp [hsch] at h; exact ⟨rest, by rw [h]⟩
    simp [step, fetch, hs, hr]

/-- What one step can do: the core's own step in its turn, a host command, a reset, or a move of the receiver or the
host. -/
theorem step_cases (s : State) :
    (CoreTurn s ∧ s.reservedCode = none ∧ step s = coreStep (turn s))
    ∨ (CoreTurn s ∧ ∃ f, s.reservedCode = some f ∧ step s = .fault f)
    ∨ (s.env.sched.head? = some .hostStart ∧ step s = execHostStart s)
    ∨ (s.env.sched.head? = some .reset ∧ step s = .next (resetCore s.moved))
    ∨ (∃ b, s.env.sched.head? = some (.receiver b) ∧ step s = .next (receiverSends b s.moved))
    ∨ (∃ n d, s.env.sched.head? = some (.handOver n d) ∧ step s = hostUses s (handOver n d s.moved))
    ∨ (s.env.sched.head? = some .drain ∧ step s = hostUses s (drainQueue s.moved)) := by
  have core (h : CoreTurn s) : (CoreTurn s ∧ s.reservedCode = none ∧ step s = coreStep (turn s))
      ∨ (CoreTurn s ∧ ∃ f, s.reservedCode = some f ∧ step s = .fault f) := by
    cases hr : s.reservedCode with
    | none => exact .inl ⟨h, rfl, step_coreTurn h hr⟩
    | some f => exact .inr ⟨h, f, rfl, step_coreTurn_reserved h hr⟩
  cases hs : s.env.sched with
  | nil => rcases core (.inl hs) with h | h <;> simp [h]
  | cons m rest =>
    cases m with
    | core => rcases core (.inr (by simp [hs])) with h | h <;> simp [h]
    | hostStart => exact .inr (.inr (.inl ⟨rfl, by simp [step, fetch, hs]; rfl⟩))
    | reset => exact .inr (.inr (.inr (.inl ⟨rfl, by simp [step, fetch, hs]⟩)))
    | receiver b => exact .inr (.inr (.inr (.inr (.inl ⟨b, rfl, by simp [step, fetch, hs]⟩))))
    | handOver n d => exact .inr (.inr (.inr (.inr (.inr (.inl ⟨n, d, rfl, by simp [step, fetch, hs]⟩)))))
    | drain => exact .inr (.inr (.inr (.inr (.inr (.inr ⟨rfl, by simp [step, fetch, hs]⟩)))))

/-! ### The core's own step, by control point -/

/-- Outside a session the core's step changes nothing (R217, R270). -/
theorem coreStep_idle_phase (h : s.phase.isBusy = false) : coreStep s = .next s := by
  simp [coreStep, coreFetch, State.busy, h]

/-- While `HS` is idle the core runs the internal operation that is next; where none is, the next unit's first step, and
after the last unit the end of the session (R203, R206, R211, R212). -/
theorem coreStep_idle (hb : s.phase.isBusy = true) (hh : s.hs = .idle) (hr : s.reservedCode = none) :
    (s.todo ≠ .none ∧ coreStep s = (runTodo s).out)
    ∨ (s.todo = .none ∧ s.phase = .headerSent ∧ coreStep s = (sizeProbe s).out)
    ∨ (s.todo = .none ∧ s.phase = .dataLoop ∧ coreStep s = (dataRead s).out)
    ∨ (s.todo = .none ∧ s.phase = .eotSent ∧ coreStep s = .next (finSend s))
    ∨ (s.todo = .none ∧ s.phase = .finSent ∧ coreStep s = .next (finish .success s)) := by
  cases hq : s.todo.isResp with
  | true =>
    have hne : s.todo ≠ .none := fun e => by rw [e] at hq; cases hq
    exact .inl ⟨hne, by simp [coreStep, coreFetch, State.busy, hb, hh, fetchIdle, hq]⟩
  | false =>
    cases hp : s.phase <;> simp_all [Phase.isBusy]
    · by_cases ht : s.todo = .none <;>
        simp [coreStep, coreFetch, fetchIdle, State.busy, hp, hh, Phase.isBusy, exec, execPkt128Hdr, atControl, hr,
          State.isAt, hq, unitStep, ht, isResp_none]
    · cases he : s.eotNext <;> by_cases ht : s.todo = .none <;>
        simp [coreStep, coreFetch, fetchIdle, State.busy, hp, hh, Phase.isBusy, exec, execEot, execPkt1024Data,
          atControl, hr, State.isAt, hq, he, unitStep, ht, isResp_none]
    · by_cases ht : s.todo = .none <;>
        simp [coreStep, coreFetch, fetchIdle, State.busy, hp, hh, Phase.isBusy, exec, execPkt128Fin, atControl, hr,
          State.isAt, hq, unitStep, ht, isResp_none]
    · by_cases ht : s.todo = .none <;>
        simp [coreStep, coreFetch, fetchIdle, State.busy, hp, hh, Phase.isBusy, exec, execPkt128Fin, atControl, hr,
          State.isAt, hq, unitStep, ht, isResp_none, sessionEnd]

/-- While a unit is on its way the core writes its next byte (R171). -/
theorem coreStep_tx (hb : s.phase.isBusy = true) (hh : s.hs = .tx) (hr : s.reservedCode = none) :
    coreStep s = sendByte s := by
  cases hp : s.phase <;> simp_all [Phase.isBusy] <;>
    simp [coreStep, coreFetch, fetchSend, State.busy, hp, hh, Phase.isBusy, exec, execPkt128Hdr, execPkt1024Data,
      execEot, execPkt128Fin, atControl, hr, State.isAt, unitStep]

/-- Waiting for a response: its class runs, a failed read aborts, no answer is no step (R172). -/
theorem coreStep_wait (hb : s.phase.isBusy = true) (hh : s.hs = .wait) :
    (∃ b, s.rxAnswer = .byte b ∧ coreStep s = exec (decodeResponse b) s)
    ∨ (s.rxAnswer = .err ∧ coreStep s = .next (raiseAbort .channelOrFileError s.rxFailed))
    ∨ (s.rxAnswer = .timeout ∧ coreStep s = .next (raiseAbort .timeout s.rxFailed))
    ∨ (s.rxAnswer = .wait ∧ coreStep s = .next s) := by
  cases ha : s.rxAnswer <;>
    simp [coreStep, coreFetch, State.busy, hb, hh, fetchRead, ha, fetched, decode, readAborts]

/-- Waiting for the second byte of a cancel (R178). -/
theorem coreStep_ca2 (hb : s.phase.isBusy = true) (hh : s.hs = .ca2) :
    (∃ b, s.rxAnswer = .byte b ∧ coreStep s = execRxCa2Any b s)
    ∨ (s.rxAnswer = .err ∧ coreStep s = .next (raiseAbort .channelOrFileError s.rxFailed))
    ∨ (s.rxAnswer = .timeout ∧ coreStep s = .next (raiseAbort .timeout s.rxFailed))
    ∨ (s.rxAnswer = .wait ∧ coreStep s = .next s) := by
  cases ha : s.rxAnswer <;>
    simp [coreStep, coreFetch, State.busy, hb, hh, fetchRead, ha, fetched, decode, readAborts, exec]

/-- The one poll after a gated `ACK` (R176). -/
theorem coreStep_probe (hb : s.phase.isBusy = true) (hh : s.hs = .probe) :
    (∃ o, s.pollAnswer = .got o ∧ coreStep s = execRxExtraAny o s)
    ∨ (s.pollAnswer = .err ∧ coreStep s = .next (raiseAbort .channelOrFileError s.pollFailed)) := by
  cases ha : s.pollAnswer with
  | err => simp [coreStep, coreFetch, State.busy, hb, hh, fetchPoll, ha, readAborts]
  | got o =>
    cases o <;> simp [coreStep, coreFetch, State.busy, hb, hh, fetchPoll, ha, fetched, decode, exec]

/-- What a response byte runs (R92, R173). -/
theorem exec_decodeResponse (b : Byte) (s : State) :
    (b = Config.ack ∧ exec (decodeResponse b) s = execRxAck s)
    ∨ (b = Config.ca ∧ exec (decodeResponse b) s = execRxCa s)
    ∨ (b = Config.nak ∧ exec (decodeResponse b) s = execRxNak s)
    ∨ (b ≠ Config.ack ∧ b ≠ Config.ca ∧ b ≠ Config.nak ∧ exec (decodeResponse b) s = execRxOther b s) := by
  unfold decodeResponse
  by_cases h1 : b = Config.ack
  · simp [h1, exec]
  · by_cases h2 : b = Config.ca
    · subst h2; simp [exec, h1]
    · by_cases h3 : b = Config.nak
      · subst h3; simp [exec, h1, h2]
      · simp [exec, h1, h2, h3]

/-! ### The turn changes the schedule alone -/

@[simp] theorem turn_phase : (turn s).phase = s.phase := by unfold turn; split <;> rfl
@[simp] theorem turn_hs : (turn s).hs = s.hs := by unfold turn; split <;> rfl
@[simp] theorem turn_params : (turn s).params = s.params := by unfold turn; split <;> rfl
@[simp] theorem turn_reservedCode : (turn s).reservedCode = s.reservedCode := by unfold turn; split <;> rfl
@[simp] theorem turn_rxAnswer : (turn s).rxAnswer = s.rxAnswer := by unfold turn; split <;> rfl
@[simp] theorem turn_pollAnswer : (turn s).pollAnswer = s.pollAnswer := by unfold turn; split <;> rfl
@[simp] theorem turn_readAnswer : (turn s).readAnswer = s.readAnswer := by unfold turn; split <;> rfl
@[simp] theorem turn_todo : (turn s).todo = s.todo := by unfold turn; split <;> rfl
@[simp] theorem turn_gate : (turn s).gate = s.gate := by unfold turn; split <;> rfl

/-- The registers of `turn s` are those of `s`; of the environment only the schedule differs. -/
theorem turn_eq (s : State) : turn s = { s with env := { s.env with sched := s.env.sched.tail } } := by
  unfold turn
  split
  · rename_i h
    obtain ⟨_, _, _, _, _, _, _, _, _, _, _, _, _, _, _, _, _, _, e⟩ := s
    obtain ⟨_, _, _, _, _, _, _, sch, _, _, _, _, _⟩ := e
    simp only at h
    subst h
    rfl
  · rfl

end Sys2Proof.Machine
end

