-- ==== Sys2Proof/Laws/Run.lean ====
section
/-!
SUPPORT. Runs of many steps put together from shorter ones.
-/

namespace Sys2Proof.Machine

@[simp] theorem stepsFrom_zero (s : State) : stepsFrom 0 s = .next s := rfl

/-- The first step of a run that goes on. -/
theorem stepsFrom_succ {n : Nat} {s t : State} (h : step s = .next t) : stepsFrom (n + 1) s = stepsFrom n t := by
  show Host.Core.run Sys2Proof.core (n + 1) s = _
  have h' : Sys2Proof.core.step s = .next t := h
  simp only [Host.Core.run, h', stepsFrom]

theorem stepsFrom_one {s t : State} (h : step s = .next t) : stepsFrom 1 s = .next t := by
  rw [stepsFrom_succ h, stepsFrom_zero]

/-- A run of `m` steps that goes on, followed by `n` more. -/
theorem stepsFrom_add : ∀ {m : Nat} (n : Nat) {s t : State}, stepsFrom m s = .next t →
    stepsFrom (m + n) s = stepsFrom n t
  | 0, n, s, t, h => by cases h; rw [Nat.zero_add]
  | m + 1, n, s, t, h => by
    cases hs : step s with
    | next u =>
      rw [stepsFrom_succ hs] at h
      rw [Nat.add_right_comm, stepsFrom_succ hs]
      exact stepsFrom_add n h
    | fault f =>
      have h' : Sys2Proof.core.step s = .fault f := hs
      have e : stepsFrom (m + 1) s = .fault f := by
        show Host.Core.run Sys2Proof.core (m + 1) s = _
        simp only [Host.Core.run, h']; rfl
      rw [e] at h; cases h
    | refused r =>
      have h' : Sys2Proof.core.step s = .refused r := hs
      have e : stepsFrom (m + 1) s = .refused r := by
        show Host.Core.run Sys2Proof.core (m + 1) s = _
        simp only [Host.Core.run, h']; rfl
      rw [e] at h; cases h

/-! ### Steps of one instruction -/

@[simp] theorem execs_zero (i : Instr) (s : State) : execs 0 i s = .next s := rfl

theorem execs_succ {n : Nat} {i : Instr} {s t : State} (h : exec i s = .next t) : execs (n + 1) i s = execs n i t := by
  simp [execs, h]

/-- A state that its own step leaves as it is stays so. -/
theorem stepsFrom_fixed {s : State} (h : step s = .next s) : ∀ n, stepsFrom n s = .next s
  | 0 => rfl
  | n + 1 => by rw [stepsFrom_succ h]; exact stepsFrom_fixed h n

end Sys2Proof.Machine
end

