-- ==== Sys2Proof/Tests/Slice0.lean ====
section
/-!
SUPPORT. Tests of the model's own. Expected values come from spec/95_test_vectors.md and from hand reading of the
rules named. The theorems `witness_<Obligation>` show a state and operands that meet the hypotheses of a statement.
-/

namespace Sys2Proof.Tests

open Sys2Proof.Machine

-- One kernel evaluation at a time: a hundred of them at once exhaust the checker's threads.
set_option Elab.async false

/-! ### Helpers -/

/-- The state an outcome goes to. -/
def after : Out → State
  | .next s => s
  | .fault _ => State.reset
  | .refused _ => State.reset

def isNext : Out → Bool
  | .next _ => true
  | .fault _ => false
  | .refused _ => false

theorem next_after : ∀ {o : Out}, isNext o = true → o = .next (after o)
  | .next _, _ => rfl
  | .fault _, h => nomatch h
  | .refused _, h => nomatch h

/-- One step. -/
def stepped (s : State) : State := after (step s)

/-- The core at a control point, everything else as after reset. -/
def pointAt (p : Phase) (h : Hs) : State := { State.reset with phase := p, hs := h }

def withEnv (e : Env) (s : State) : State := { s with env := e }

/-- A file of these bytes. -/
def fileOf (data : List Byte) : Env :=
  { Env.initial with file := { size := data.length, data := data, cursor := 0, isOpen := true } }

/-- A file that answers this size. -/
def sizedFile (n : Nat) : Env := { Env.initial with file := { FileSource.empty with size := n } }

/-- These bytes wait in the RX queue. -/
def queued (q : List Byte) (s : State) : State := { s with env := { s.env with rxQueue := q } }

def scheduled (m : Move) (s : State) : State := { s with env := { s.env with sched := [m] } }

/-- The opening header of a 1024-byte file, built. -/
def hdrUnit : State := after (execs 5 .pkt128Hdr (withEnv (sizedFile 1024) (pointAt .headerSent .idle)))

/-- The data packet of the bytes `41 42 43` with seq 5, built. -/
def dataUnit : State :=
  after (execs 4 .pkt1024Data (withEnv (fileOf [0x41#8, 0x42#8, 0x43#8])
    { pointAt .dataLoop .idle with seq := 5#8, bsel := true }))

/-- The `EOT`, built. -/
def eotUnit : State := after (execs 2 .eot { pointAt .dataLoop .idle with bsel := true })

/-- The closing header, built. -/
def finUnit : State := after (execs 4 .pkt128Fin { pointAt .eotSent .idle with bsel := true })

/-- `HANDSHAKE` has returned `r`. -/
def answered (r : Resp) (s : State) : State :=
  { s with hs := .idle, todo := .resp r, txidx := s.pktlen, lastRespValid := true }

/-- All bytes of the unit are written. -/
def written (s : State) : State := { s with hs := .wait, txidx := s.pktlen }

/-- The parameters with `n` retries. -/
def retries (n : Nat) (s : State) : State := { s with params := { s.params with maxRetries := n } }

/-- The longest well-formed name. -/
def longName : Params := { Params.default with logicalName := List.replicate 116 0x61#8 }

/-- `firmware`, NUL, `1024`, space (W6). -/
def header1024 : List Byte :=
  [0x66#8, 0x69#8, 0x72#8, 0x6D#8, 0x77#8, 0x61#8, 0x72#8, 0x65#8, 0x00#8, 0x31#8, 0x30#8, 0x32#8, 0x34#8, 0x20#8]

/-! ### Well-formedness refuses -/

theorem test_other_is_not_ack : (Instr.rxOther 0x06#8).wellFormed = false := by decide
theorem test_other_is_not_ca : (Instr.rxOther 0x18#8).wellFormed = false := by decide
theorem test_other_is_not_nak : (Instr.rxOther 0x15#8).wellFormed = false := by decide
theorem test_header_seq_zero :
    (WireFields.mk 1#8 (List.replicate 128 0x61#8)).wellFormed .pkt128Hdr = false := by decide +kernel
theorem test_header_length :
    (WireFields.mk 0#8 (List.replicate 127 0x61#8)).wellFormed .pkt128Hdr = false := by decide +kernel
theorem test_header_has_name :
    (WireFields.mk 0#8 (List.replicate 128 0x00#8)).wellFormed .pkt128Hdr = false := by decide +kernel
theorem test_fin_has_no_name :
    (WireFields.mk 0#8 (List.replicate 128 0x61#8)).wellFormed .pkt128Fin = false := by decide +kernel
theorem test_fin_seq_zero :
    (WireFields.mk 1#8 (List.replicate 128 0x00#8)).wellFormed .pkt128Fin = false := by decide +kernel
theorem test_fin_length :
    (WireFields.mk 0#8 (List.replicate 129 0x00#8)).wellFormed .pkt128Fin = false := by decide +kernel
theorem test_data_length :
    (WireFields.mk 1#8 (List.replicate 128 0x00#8)).wellFormed .pkt1024Data = false := by decide +kernel
theorem test_eot_has_no_fields : (WireFields.mk 1#8 []).wellFormed .eot = false := by decide
theorem test_eot_has_no_payload : (WireFields.mk 0#8 [0#8]).wellFormed .eot = false := by decide
theorem test_name_not_empty : Params.wellFormed { Params.default with logicalName := [] } = false := by decide
theorem test_name_without_nul :
    Params.wellFormed { Params.default with logicalName := [0x61#8, 0x00#8] } = false := by decide
theorem test_name_not_too_long :
    Params.wellFormed { Params.default with logicalName := List.replicate 117 0x61#8 } = false := by decide
theorem test_size_bits : Params.wellFormed { Params.default with sizeBits := 33 } = false := by decide
theorem test_default_params : Params.default.wellFormed = true ∧ longName.wellFormed = true := by decide

/-! ### Words written out from the spec's encodings -/

/-- W6. -/
theorem test_decode_header :
    decode .transmit ([0x01#8, 0x00#8, 0xFF#8] ++ header1024 ++ List.replicate 114 0x1A#8 ++ [0x16#8, 0xBA#8])
      = .ok .pkt128Hdr := by decide +kernel

/-- V-F19. -/
theorem test_decode_data :
    decode .transmit ([0x02#8, 0x01#8, 0xFE#8, 0x41#8, 0x42#8, 0x43#8] ++ List.replicate 1021 0x1A#8
      ++ [0xCF#8, 0x60#8]) = .ok .pkt1024Data := by decide +kernel

/-- V-F23. -/
theorem test_decode_eot : decode .transmit [0x04#8] = .ok .eot := by rfl

/-- V-F12. -/
theorem test_decode_fin :
    decode .transmit ([0x01#8, 0x00#8, 0xFF#8, 0x00#8, 0x30#8, 0x20#8] ++ List.replicate 125 0x1A#8
      ++ [0xB8#8, 0xC3#8]) = .ok .pkt128Fin := by decide +kernel

/-- R92. -/
theorem test_decode_ack : decode .response [0x06#8] = .ok .rxAck := by rfl
theorem test_decode_ca : decode .response [0x18#8] = .ok .rxCa := by rfl
theorem test_decode_nak : decode .response [0x15#8] = .ok .rxNak := by rfl
theorem test_decode_c : decode .response [0x43#8] = .ok (.rxOther 0x43#8) := by rfl

/-- R93, R94: not decoded, whatever the value. -/
theorem test_decode_second : decode .cancelSecond [0x06#8] = .ok (.rxCa2Any 0x06#8) := by rfl
theorem test_decode_extra : decode .extra [0x18#8] = .ok (.rxExtraAny (some 0x18#8)) := by rfl
theorem test_decode_no_extra : decode .extra [] = .ok (.rxExtraAny none) := by rfl

/-- R96. -/
theorem test_decode_start : decode .hostCommand [0x01#8] = .ok .hostStart := by rfl

/-- R95: a first byte the core never sends; R85: too few bytes. -/
theorem test_decode_rejects :
    decode .transmit [0x03#8] = .error .notTransmitted ∧ decode .transmit [0x02#8] = .error .truncated
      ∧ decode .transmit [] = .error .empty ∧ decode .hostCommand [0x00#8] = .error .noCommand :=
  ⟨rfl, rfl, rfl, rfl⟩

/-- V-F12 with one bit of the CRC and with the inverse spoilt. -/
theorem test_parse_rejects :
    parseUnit ([0x01#8, 0x00#8, 0xFF#8, 0x00#8, 0x30#8, 0x20#8] ++ List.replicate 125 0x1A#8 ++ [0xB8#8, 0xC2#8])
      = .error .badCrc
    ∧ parseUnit ([0x01#8, 0x00#8, 0xFE#8, 0x00#8, 0x30#8, 0x20#8] ++ List.replicate 125 0x1A#8 ++ [0xB8#8, 0xC3#8])
      = .error .badInverse := by
  constructor <;> decide +kernel

/-- The rows' words of the opcode table. -/
theorem test_table_words :
    decodeTableWord 8 0x01 = some .pkt128Fin ∧ decodeTableWord 8 0x02 = some .pkt1024Data
      ∧ decodeTableWord 8 0x04 = some .eot ∧ decodeTableWord 8 0x06 = some .rxAck
      ∧ decodeTableWord 8 0x18 = some .rxCa ∧ decodeTableWord 8 0x15 = some .rxNak
      ∧ decodeTableWord 8 0x43 = some (.rxOther 0x43#8) ∧ decodeTableWord 1 0x01 = some .hostStart := by
  decide +kernel

/-- A placed word runs: the data packet's bytes were read. -/
theorem test_placed_word_runs :
    (after (step (State.reset.withFetchWord 8 0x02))).todo = .dataSend (List.replicate 1024 0x00#8)
      ∧ (after (step (State.reset.withFetchWord 8 0x02))).env.fileReads = 1 := by decide +kernel

/-! ### The CRC engine and the framer -/

/-- Spot checks of R122 and V-C12, V-C17. -/
theorem test_crc_table :
    crcTable 0x00#8 = 0x0000#16 ∧ crcTable 0x31#8 = 0x2672#16 ∧ crcTable 0x80#8 = 0x9188#16
      ∧ crcTable 0xFF#8 = 0x1EF0#16 ∧ crc16 (List.replicate 128 0xFF#8) 0#16 = 0xEDA9#16
      ∧ crc16 ((List.range 128).map (BitVec.ofNat 8)) 0#16 = 0xE80A#16 := by decide +kernel

/-- V-F3. -/
theorem test_dec_encode :
    decEncode 0 = [0x30#8] ∧ decEncode 2050 = [0x32#8, 0x30#8, 0x35#8, 0x30#8]
      ∧ (decEncode 4294967295).length = 10 := by decide +kernel

/-! ### The transmitted forms -/

/-- V-F6: `PLEN` 14, CRC 16BA, 133 bytes. -/
theorem test_header_build :
    hdrUnit.plen = 14#11 ∧ hdrUnit.crc = 0x16BA#16 ∧ hdrUnit.pktlen = 133#11 := by decide +kernel

/-- The first byte of a header is `SOH`. -/
theorem test_header_send : (after (exec .pkt128Hdr hdrUnit)).env.wire = [0x01#8] := by decide +kernel

/-- V-F19 at seq 5: CRC CF60, and the seventh byte is the first pad byte. -/
theorem test_data_build :
    dataUnit.crc = 0xCF60#16 ∧ dataUnit.unitBytes.map (·.take 7)
      = some [0x02#8, 0x05#8, 0xFA#8, 0x41#8, 0x42#8, 0x43#8, 0x1A#8] := by decide +kernel

/-- V-F24: the CRC's high byte is at index 1027. -/
theorem test_data_send :
    (after (exec .pkt1024Data { dataUnit with txidx := 1027#11 })).env.wire = [0xCF#8] := by decide +kernel

/-- V-F23: one byte. -/
theorem test_eot_build : eotUnit.phase = .eotSent ∧ eotUnit.pktlen = 1#11 := by decide +kernel

theorem test_eot_send :
    (after (exec .eot eotUnit)).env.wire = [0x04#8] ∧ (after (exec .eot eotUnit)).hs = .wait := by decide +kernel

/-- V-F12. -/
theorem test_fin_build : finUnit.crc = 0xB8C3#16 ∧ finUnit.seq = 0#8 ∧ finUnit.bsel = false := by decide +kernel

/-- The last byte of the closing header is the CRC's low byte, and then the core waits. -/
theorem test_fin_send :
    (after (exec .pkt128Fin { finUnit with txidx := 132#11 })).env.wire = [0xC3#8]
      ∧ (after (exec .pkt128Fin { finUnit with txidx := 132#11 })).hs = .wait := by decide +kernel

/-! ### The received bytes -/

/-- V-H4: a data packet with seq 5, the gate closed; the next byte stays; `SEQ` advances in the step after the read. -/
theorem test_ack_closed :
    (stepped (after (exec .rxAck (queued [0x06#8, 0x43#8] (written dataUnit))))).seq = 6#8
      ∧ (after (exec .rxAck (queued [0x06#8, 0x43#8] (written dataUnit)))).env.rxQueue = [0x43#8] := by
  decide +kernel

/-- V-H2, first half: the opening header opens the gate. -/
theorem test_ack_open :
    (after (exec .rxAck (queued [0x06#8, 0x43#8] (written hdrUnit)))).hs = .probe := by decide +kernel

/-- V-H8, first byte. -/
theorem test_ca :
    (after (exec .rxCa (queued [0x18#8, 0x18#8] (written eotUnit)))).hs = .ca2
      ∧ (after (exec .rxCa (queued [0x18#8, 0x18#8] (written eotUnit)))).lastResp = 0x18#8 := by decide +kernel

/-- V-H9: the second byte is not checked. -/
theorem test_ca_second :
    (stepped (after (exec (.rxCa2Any 0x06#8) (queued [0x06#8] { written dataUnit with hs := .ca2 })))).status
      = .cancelled := by decide +kernel

/-- V-S7: a cancel of the closing header does not cancel; the session ends two steps later. -/
theorem test_ca_second_fin :
    (stepped (stepped (after (exec (.rxCa2Any 0x18#8) (queued [0x18#8] { written finUnit with hs := .ca2 }))))).status
      = .success := by decide +kernel

/-- V-H11: no retry by default. -/
theorem test_nak :
    (stepped (after (exec .rxNak (queued [0x15#8] (written eotUnit))))).status = .unexpectedResponse := by
  decide +kernel

/-- V-H12: with a retry left the unit is sent again. -/
theorem test_nak_retry :
    (after (exec .rxNak (retries 1 (queued [0x15#8] (written dataUnit))))).hs = .tx
      ∧ (after (exec .rxNak (retries 1 (queued [0x15#8] (written dataUnit))))).retry = 1 := by decide +kernel

/-- V-E6; R213: the read leaves the file open, the abort after it closes it. -/
theorem test_other :
    (stepped (after (exec (.rxOther 0x43#8) (queued [0x43#8] (written hdrUnit))))).status = .unexpectedResponse
      ∧ (after (exec (.rxOther 0x43#8) (queued [0x43#8] (written hdrUnit)))).fclosed = false := by decide +kernel

/-- V-S7; R213: `FileClose` is a step of its own. -/
theorem test_other_fin :
    (stepped (after (exec (.rxOther 0x43#8) (queued [0x43#8] (written finUnit))))).fclosed = false
      ∧ (stepped (stepped (after (exec (.rxOther 0x43#8) (queued [0x43#8] (written finUnit)))))).status = .success := by
  decide +kernel

/-- V-H2, second half: the extra byte is discarded. -/
theorem test_extra_present :
    (after (exec (.rxExtraAny (some 0x43#8)) (queued [0x43#8] { written hdrUnit with hs := .probe }))).env.rxQueue = []
      ∧ (stepped (after (exec (.rxExtraAny (some 0x43#8))
          (queued [0x43#8] { written hdrUnit with hs := .probe })))).phase = .dataLoop := by decide +kernel

/-- V-H3: drawn absent, it stays. -/
theorem test_extra_absent :
    (after (exec (.rxExtraAny none)
        { written hdrUnit with
          hs := .probe, env := { Env.initial with rxQueue := [0x43#8], pollDraws := [.absent] } })).env.rxQueue
      = [0x43#8] := by decide +kernel

/-! ### The host command -/

/-- R201, example; R272: a byte in the RX queue breaks the launch (spec/93_implementation_defined.md O3). -/
theorem test_host_start :
    (after (step (scheduled .hostStart State.reset))).phase = .headerSent
      ∧ (after (step (scheduled .hostStart State.reset))).busy = true
      ∧ step (scheduled .hostStart (withEnv { Env.initial with rxQueue := [0x43#8] } State.reset))
          = .refused .launchPremiseBroken := ⟨by decide +kernel, by decide +kernel, rfl⟩

/-- V-S10. -/
theorem test_host_start_busy :
    (after (step (scheduled .hostStart dataUnit))).phase = .dataLoop
      ∧ (after (step (scheduled .hostStart dataUnit))).seq = 5#8 := by decide +kernel

/-! ### Witnesses: a state and operands that meet the hypotheses of a statement -/

theorem witness_ResetAbandonsSession : (scheduled .reset dataUnit).env.sched.head? = some .reset := by decide

/-- One well-formed instance of every form. -/
theorem witness_DecodeEncodeAgree :
    (WireFields.mk 0#8 (List.replicate 128 0xFF#8)).wellFormed .pkt128Hdr = true
      ∧ (WireFields.mk 0xFF#8 (List.replicate 1024 0x00#8)).wellFormed .pkt1024Data = true
      ∧ (WireFields.mk 0#8 []).wellFormed .eot = true
      ∧ (WireFields.mk 0#8 (List.replicate 128 0x00#8)).wellFormed .pkt128Fin = true
      ∧ (∀ i ∈ [Instr.rxAck, .rxCa, .rxNak, .rxOther 0x00#8, .rxOther 0xFF#8, .rxCa2Any 0x18#8,
          .rxExtraAny none, .rxExtraAny (some 0x06#8), .hostStart],
          i.wellFormed = true ∧ (WireFields.mk 0#8 []).wellFormed i = true) := by decide +kernel

theorem witness_TransmittedUnitRoundTrip :
    Instr.readPoint .pkt1024Data = .transmit ∧ Instr.readPoint .eot = .transmit
      ∧ (WireFields.mk 0xFF#8 (List.replicate 1024 0x00#8)).wellFormed .pkt1024Data = true
      ∧ (WireFields.mk 0#8 []).wellFormed .eot = true := by decide +kernel

theorem witness_ParsedUnitIsItsEncoding :
    parseUnit [0x04#8] = .ok (.eot, ⟨0#8, []⟩)
    ∧ parseUnit ([0x01#8, 0x00#8, 0xFF#8, 0x00#8, 0x30#8, 0x20#8] ++ List.replicate 125 0x1A#8 ++ [0xB8#8, 0xC3#8])
      = .ok (.pkt128Fin, ⟨0#8, [0x00#8, 0x30#8, 0x20#8] ++ List.replicate 125 0x1A#8⟩) := by
  constructor <;> decide +kernel

theorem witness_FirstByteTellsLength :
    Instr.readPoint .pkt128Fin = .transmit
      ∧ (WireFields.mk 0#8 (List.replicate 128 0x00#8)).wellFormed .pkt128Fin = true
      ∧ (0x00#8 : Byte) ≠ 0x01#8 ∧ (0x03#8 : Byte) ≠ 0x02#8 ∧ (0x05#8 : Byte) ≠ 0x04#8 := by decide +kernel

theorem witness_DecimalSizeDigits : 4294967295 ≠ 0 ∧ 4294967295 < 2 ^ 32 := by decide

theorem witness_HeaderRoundTrip :
    longName.wellFormed = true ∧ 4294967295 < 2 ^ longName.sizeBits
      ∧ Params.default.wellFormed = true ∧ 0 < 2 ^ Params.default.sizeBits := by decide +kernel

/-- One state for every clause. -/
theorem witness_StepRunsDecoded :
    (CoreTurn finUnit ∧ finUnit.reservedCode = none ∧ sendPhase .pkt128Fin = some finUnit.phase ∧ finUnit.hs = .tx)
    ∧ (CoreTurn (scheduled .core (pointAt .headerSent .idle))
        ∧ (scheduled .core (pointAt .headerSent .idle)).reservedCode = none
        ∧ (scheduled .core (pointAt .headerSent .idle)).todo = .none)
    ∧ ((withEnv (fileOf [0x41#8]) (pointAt .dataLoop .idle)).readAnswer ≠ .chunk []
        ∧ (withEnv (fileOf [0x41#8]) (pointAt .dataLoop .idle)).todo = .none)
    ∧ EotNext (pointAt .dataLoop .idle)
    ∧ ((pointAt .eotSent .idle).reservedCode = none ∧ (pointAt .eotSent .idle).todo = .none)
    ∧ ({ pointAt .finSent .idle with todo := .pad } : State).reservedCode = none
    ∧ ((queued [0x43#8] (written hdrUnit)).rxAnswer = .byte 0x43#8
        ∧ (written hdrUnit).phase.isBusy = true ∧ (written hdrUnit).hs = .wait)
    ∧ (queued [0x00#8] { written hdrUnit with hs := .ca2 }).rxAnswer = .byte 0x00#8
    ∧ (queued [] { written hdrUnit with hs := .probe }).pollAnswer = .got none
    ∧ (queued [0x43#8] { written hdrUnit with hs := .probe }).pollAnswer = .got (some 0x43#8)
    ∧ (scheduled .hostStart State.reset).env.sched.head? = some .hostStart := by decide +kernel

theorem witness_PacketByteReadsUnit :
    (eotUnit.pbuf.wf = true ∧ eotUnit.unitBytes = some [0x04#8])
    ∧ (finUnit.pbuf.wf = true ∧ (finUnit.unitBytes.map List.length) = some 133
        ∧ (finUnit.unitBytes.bind (·[132]?)) = some 0xC3#8) := by decide +kernel

theorem witness_BuiltUnitsDecode :
    (∃ s t, s.params.wellFormed = true ∧ s.hs = .idle ∧ s.todo = .none
      ∧ execs (buildSteps .pkt128Hdr) .pkt128Hdr s = .next t ∧ t.hs = .tx)
    ∧ (∃ s t, s.params.wellFormed = true ∧ s.bsel = true ∧ s.hs = .idle ∧ s.todo = .none
      ∧ execs (buildSteps .pkt1024Data) .pkt1024Data s = .next t ∧ t.hs = .tx)
    ∧ (∃ s t, s.params.wellFormed = true ∧ s.hs = .idle ∧ s.todo = .none
      ∧ execs (buildSteps .eot) .eot s = .next t ∧ t.hs = .tx)
    ∧ ∃ s t, s.params.wellFormed = true ∧ s.hs = .idle ∧ s.todo = .none
      ∧ execs (buildSteps .pkt128Fin) .pkt128Fin s = .next t ∧ t.hs = .tx := by
  refine ⟨⟨pointAt .headerSent .idle, _, by decide, rfl, rfl, next_after (by decide +kernel), by decide +kernel⟩,
    ⟨withEnv (fileOf [0x41#8]) { pointAt .dataLoop .idle with bsel := true }, _, by decide, rfl, rfl, rfl,
      next_after (by decide +kernel), by decide +kernel⟩,
    ⟨pointAt .dataLoop .idle, _, by decide, rfl, rfl, next_after (by decide +kernel), by decide +kernel⟩,
    ⟨pointAt .eotSent .idle, _, by decide, rfl, rfl, next_after (by decide +kernel), by decide +kernel⟩⟩

/-- The largest size and the longest name: 128 field bytes exactly. -/
theorem witness_HeaderBuildCompletes :
    let s := { withEnv (sizedFile 4294967295) (pointAt .headerSent .idle) with params := longName }
    Between s .headerSent .none ∧ s.sizeAnswer = .answer ∧ s.env.file.size < 2 ^ s.params.sizeBits
      ∧ (s.params.logicalName ++ [0x00#8] ++ decEncode s.env.file.size ++ [0x20#8]).length = 128 := by decide +kernel

/-- A full chunk. -/
theorem witness_DataBuildCompletes :
    let s := withEnv (fileOf (List.replicate 1024 0x41#8)) { pointAt .dataLoop .idle with bsel := true }
    Between s .dataLoop .none ∧ s.bsel = true ∧ s.readAnswer = .chunk (List.replicate 1024 0x41#8) := by decide +kernel

theorem witness_EotBuildCompletes :
    Between (pointAt .dataLoop .idle) .dataLoop .none ∧ (pointAt .dataLoop .idle).readAnswer = .chunk [] := by decide

theorem witness_FinBuildCompletes : Between (pointAt .eotSent .idle) .eotSent .none := by decide

/-- Every form, the last byte of the closing header among them. -/
theorem witness_SendByteCompletes :
    (At hdrUnit .headerSent .tx ∧ hdrUnit.txidx < hdrUnit.pktlen ∧ (hdrUnit.packetByte 0).toOption = some 0x01#8
        ∧ hdrUnit.txAnswer = .accept ∧ sendPhase .pkt128Hdr = some .headerSent)
    ∧ (At dataUnit .dataLoop .tx ∧ dataUnit.txidx < dataUnit.pktlen
        ∧ (dataUnit.packetByte 0).toOption = some 0x02#8 ∧ dataUnit.txAnswer = .accept
        ∧ sendPhase .pkt1024Data = some .dataLoop)
    ∧ (At eotUnit .eotSent .tx ∧ eotUnit.txidx < eotUnit.pktlen ∧ (eotUnit.packetByte 0).toOption = some 0x04#8
        ∧ eotUnit.txAnswer = .accept ∧ sendPhase .eot = some .eotSent)
    ∧ (At finUnit .finSent .tx ∧ 132#11 < finUnit.pktlen ∧ (finUnit.packetByte 132).toOption = some 0xC3#8
        ∧ finUnit.txAnswer = .accept ∧ sendPhase .pkt128Fin = some .finSent) := by decide +kernel

theorem witness_TransactionErrorAborts :
    (let s := { eotUnit with env := { eotUnit.env with txDraws := [.err] } };
      At s .eotSent .tx ∧ s.txidx < s.pktlen ∧ (s.packetByte s.txidx.toNat).toOption = some 0x04#8
        ∧ s.txAnswer = .err ∧ s.fclosed = false)
    ∧ (let s := withEnv { Env.initial with sizeDraws := [.err] } (pointAt .headerSent .idle);
      Between s .headerSent .none ∧ s.sizeAnswer = .err ∧ s.fclosed = false)
    ∧ (let s := withEnv { Env.initial with readDraws := [.err] } (pointAt .dataLoop .idle);
      Between s .dataLoop .none ∧ s.readAnswer = .err ∧ s.fclosed = false) := by decide +kernel

/-- V-F15: 129 field bytes; a chunk of 1025 bytes. -/
theorem witness_TooLongAborts :
    (let s := { pointAt .headerSent .idle with
        params := { Params.default with logicalName := List.replicate 126 0x61#8 } };
      Between s .headerSent .none ∧ s.sizeAnswer = .answer ∧ s.env.file.size < 2 ^ s.params.sizeBits
        ∧ s.params.logicalName.length + (decEncode s.env.file.size).length + 2 = 129 ∧ s.fclosed = false)
    ∧ (let s := withEnv { fileOf (List.replicate 1025 0x41#8) with readDraws := [.give 1024] }
        { pointAt .dataLoop .idle with bsel := true };
      Between s .dataLoop .none ∧ s.bsel = true ∧ s.readAnswer = .chunk (List.replicate 1025 0x41#8)
        ∧ s.fclosed = false) := by decide +kernel

theorem witness_HeldTransactionsWait :
    (withEnv { Env.initial with sizeDraws := [.hold] } (pointAt .headerSent .idle)).sizeAnswer = .hold
      ∧ (withEnv { Env.initial with sizeDraws := [.never] } (pointAt .headerSent .idle)).sizeAnswer = .never
      ∧ (withEnv { Env.initial with readDraws := [.hold] } (pointAt .dataLoop .idle)).readAnswer = .hold
      ∧ (withEnv { Env.initial with readDraws := [.never] } (pointAt .dataLoop .idle)).readAnswer = .never
      ∧ Between (pointAt .headerSent .idle) .headerSent .none ∧ Between (pointAt .dataLoop .idle) .dataLoop .none
      ∧ (withEnv { Env.initial with txDraws := [.hold] } eotUnit).txAnswer = .hold
      ∧ (withEnv { Env.initial with txDraws := [.never] } eotUnit).txAnswer = .never
      ∧ At eotUnit .eotSent .tx ∧ eotUnit.txidx < eotUnit.pktlen
      ∧ (eotUnit.packetByte eotUnit.txidx.toNat).toOption = some 0x04#8 := by decide +kernel

theorem witness_AckGateOpenCompletes :
    let s := queued [0x06#8] (written hdrUnit)
    BusyAt s .wait ∧ s.rxAnswer = .byte 0x06#8 ∧ s.gate = true := by decide +kernel

/-- A read in each of the four phases; the operation on an `Ack` in each; the step that ends the session. -/
theorem witness_AckGateClosedCompletes :
    (∀ s ∈ [queued [0x06#8] { pointAt .headerSent .wait with seq := 1#8 },
          queued [0x06#8] { written dataUnit with seq := 0xFF#8 }, queued [0x06#8] (written eotUnit),
          queued [0x06#8] { written finUnit with params := { Params.default with extraAckGate := .firstPacketOnly } }],
        BusyAt s .wait ∧ s.rxAnswer = .byte 0x06#8 ∧ s.gate = false)
    ∧ (CoreTurn (answered .ack hdrUnit) ∧ Between (answered .ack hdrUnit) .headerSent (.resp .ack))
    ∧ (CoreTurn (answered .ack dataUnit) ∧ Between (answered .ack dataUnit) .dataLoop (.resp .ack))
    ∧ (CoreTurn (answered .ack eotUnit) ∧ Between (answered .ack eotUnit) .eotSent (.resp .ack))
    ∧ (CoreTurn (answered .ack finUnit) ∧ Between (answered .ack finUnit) .finSent (.resp .ack))
    ∧ (let s := { written finUnit with hs := .idle, lastRespValid := true };
      CoreTurn s ∧ Between s .finSent .none ∧ s.fclosed = false) := by decide +kernel

theorem witness_ExtraByteCompletes :
    (∀ s ∈ [queued [0x18#8] { written hdrUnit with hs := .probe },
          queued [0x18#8] { written dataUnit with hs := .probe }, queued [0x18#8] { written eotUnit with hs := .probe },
          queued [0x18#8] { written finUnit with hs := .probe }],
        s.pollAnswer = .got (some 0x18#8) ∧ BusyAt s .probe)
    ∧ (queued [] { written finUnit with hs := .probe }).pollAnswer = .got none := by decide +kernel

theorem witness_CancelFirstByteCompletes :
    let s := queued [0x18#8] (written finUnit)
    BusyAt s .wait ∧ s.rxAnswer = .byte 0x18#8 := by decide +kernel

theorem witness_CancelSecondByteCompletes :
    (∀ s ∈ [queued [0x00#8] { written hdrUnit with hs := .ca2 }, queued [0x00#8] { written dataUnit with hs := .ca2 },
        queued [0x00#8] { written eotUnit with hs := .ca2 }, queued [0x00#8] { written finUnit with hs := .ca2 }],
      BusyAt s .ca2 ∧ s.rxAnswer = .byte 0x00#8)
    ∧ ∀ s ∈ [answered .cancel hdrUnit, answered .cancel dataUnit, answered .cancel eotUnit, answered .cancel finUnit],
      CoreTurn s ∧ Between s s.phase (.resp .cancel) ∧ s.phase.isBusy = true ∧ s.fclosed = false := by decide +kernel

/-- The last retry. -/
theorem witness_NakRetryCompletes :
    let s := retries 1 (queued [0x15#8] (written eotUnit))
    BusyAt s .wait ∧ s.rxAnswer = .byte 0x15#8 ∧ s.kind ≠ .fin ∧ s.retry < s.params.maxRetries := by decide +kernel

theorem witness_NakFinalCompletes :
    (∀ s ∈ [queued [0x15#8] (written hdrUnit), queued [0x15#8] (written dataUnit), queued [0x15#8] (written eotUnit)],
      BusyAt s .wait ∧ s.rxAnswer = .byte 0x15#8 ∧ s.params.maxRetries ≤ s.retry)
    ∧ (let s := retries 3 (queued [0x15#8] (written finUnit));
      BusyAt s .wait ∧ s.rxAnswer = .byte 0x15#8 ∧ s.kind = .fin) := by decide +kernel

theorem witness_OtherResponseCompletes :
    (Instr.rxOther 0x43#8).wellFormed = true
    ∧ (∀ s ∈ [queued [0x43#8] (written hdrUnit), queued [0x43#8] (written dataUnit),
          queued [0x43#8] (written eotUnit), queued [0x43#8] (written finUnit)],
        BusyAt s .wait ∧ s.rxAnswer = .byte 0x43#8)
    ∧ ∀ s ∈ [answered (.other 0x15#8) hdrUnit, answered (.other 0x15#8) dataUnit, answered (.other 0x15#8) eotUnit,
          answered (.other 0x15#8) finUnit],
        CoreTurn s ∧ Between s s.phase (.resp (.other 0x15#8)) ∧ s.phase.isBusy = true ∧ s.fclosed = false := by
  decide +kernel

theorem witness_FailedReadAborts :
    (∀ s ∈ [withEnv { Env.initial with rxDraws := [.err] } (written finUnit),
          withEnv { Env.initial with rxDraws := [.err] } { written dataUnit with hs := .ca2 }],
        CoreTurn s ∧ s.fclosed = false ∧ s.rxAnswer = .err ∧ s.phase.isBusy = true ∧ (s.hs = .wait ∨ s.hs = .ca2))
    ∧ (∀ h ∈ [Hs.wait, Hs.ca2],
      let s := withEnv { Env.initial with rxDraws := [.timeout] }
        { written finUnit with hs := h, params := { Params.default with timeoutEnabled := true } }
      CoreTurn s ∧ s.fclosed = false ∧ BusyAt s h ∧ s.rxAnswer = .timeout)
    ∧ (let s := withEnv { Env.initial with pollDraws := [.err] } { written hdrUnit with hs := .probe };
      CoreTurn s ∧ s.fclosed = false ∧ BusyAt s .probe ∧ s.pollAnswer = .err) := by decide +kernel

theorem witness_HostStartCompletes :
    ∀ p ∈ [Phase.start, Phase.closed, Phase.aborted],
      let s := scheduled .hostStart (pointAt p .idle)
      s.phase = p ∧ s.hs.isReserved = false ∧ s.status ≠ .reserved7 ∧ s.env.sched.head? = some .hostStart
        ∧ s.params.wellFormed = true ∧ s.env.channelReady = true ∧ s.env.crcModeRequested = true
        ∧ s.rxQueueEmpty = true ∧ s.fileAtZero = true := by decide +kernel

/-- The other way to meet the premise on the RX queue: stale bytes are there and admitted. -/
theorem witness_HostStartCompletes_stale :
    let s := scheduled .hostStart (withEnv { Env.initial with rxQueue := [0x43#8], staleRxAdmitted := true } State.reset)
    s.phase = .start ∧ s.hs.isReserved = false ∧ s.status ≠ .reserved7 ∧ s.env.sched.head? = some .hostStart
      ∧ s.params.wellFormed = true ∧ s.env.channelReady = true ∧ s.env.crcModeRequested = true
      ∧ s.rxQueueEmpty = false ∧ s.env.staleRxAdmitted = true ∧ s.fileAtZero = true := by decide +kernel

theorem witness_HostStartIgnoredWhileBusy :
    let s := scheduled .hostStart dataUnit
    s.phase.isBusy = true ∧ s.hs.isReserved = false ∧ s.status ≠ .reserved7
      ∧ s.env.sched.head? = some .hostStart := by decide +kernel

theorem witness_BadLaunchRefused :
    (let s := scheduled .hostStart { State.reset with params := { Params.default with logicalName := [] } };
      s.reservedCode = none ∧ s.phase.isBusy = false ∧ s.params.wellFormed = false)
    ∧ (let s := scheduled .hostStart (withEnv { Env.initial with channelReady := false } State.reset);
      s.reservedCode = none ∧ s.params.wellFormed = true ∧ s.env.channelReady = false)
    ∧ (let s := scheduled .hostStart (withEnv { Env.initial with crcModeRequested := false } State.reset);
      s.env.crcModeRequested = false)
    ∧ (scheduled .hostStart (withEnv (sizedFile (2 ^ 32)) State.reset)).fileAtZero = false
    ∧ (let s := scheduled .hostStart (withEnv { Env.initial with rxQueue := [0x43#8] } State.reset);
      s.rxQueueEmpty = false ∧ s.env.staleRxAdmitted = false) := by decide +kernel

theorem witness_EnvironmentMoves :
    (scheduled (.receiver 0x43#8) dataUnit).env.sched.head? = some (.receiver 0x43#8)
      ∧ (scheduled (.handOver 1 [0x41#8]) dataUnit).phase.isBusy = true
      ∧ (scheduled (.handOver (2 ^ 32 - 1) []) State.reset).phase.isBusy = false
      ∧ 2 ^ 32 - 1 < 2 ^ State.reset.params.sizeBits
      ∧ (scheduled .drain State.reset).env.sched.head? = some .drain
      ∧ (scheduled .drain dataUnit).phase.isBusy = true := by decide +kernel

theorem witness_OffControlPointRefused : State.reset.reservedCode = none ∧ finUnit.reservedCode = none := by
  decide +kernel

theorem witness_ReservedCodesFault :
    (pointAt .reserved7 .idle).phase = .reserved7
      ∧ (∀ h ∈ [Hs.reserved5, Hs.reserved6, Hs.reserved7], h.isReserved = true)
      ∧ ({ State.reset with status := .reserved7 } : State).status = .reserved7
      ∧ CoreTurn (pointAt .reserved7 .idle) := by decide

theorem inv_reset : CoreInv State.reset := by constructor <;> decide +kernel

theorem inv_written_data : CoreInv (queued [0x06#8] (written dataUnit)) := by constructor <;> decide +kernel

theorem inv_answered_hdr : CoreInv { answered .ack hdrUnit with lastResp := 0x06#8 } := by
  constructor <;> decide +kernel

theorem inv_fin_over : CoreInv { written finUnit with hs := .idle, lastRespValid := true } := by
  constructor <;> decide +kernel

/-- A launch, an `Ack` to the opening header, and the step that ends a session. -/
theorem witness_PhaseTable :
    (∃ s t, CoreInv s ∧ step s = .next t ∧ s.env.sched.head? ≠ some .reset ∧ s.phase = .start ∧ t.phase = .headerSent)
    ∧ (∃ s t, CoreInv s ∧ step s = .next t ∧ s.env.sched.head? ≠ some .reset ∧ t.phase = .dataLoop ∧ t.todo ≠ s.todo)
    ∧ ∃ s t, CoreInv s ∧ step s = .next t ∧ s.env.sched.head? ≠ some .reset ∧ s.phase = .finSent ∧ t.phase = .closed :=
  ⟨⟨scheduled .hostStart State.reset, _, by constructor <;> decide +kernel, next_after (by decide +kernel), by decide,
      by decide, by decide +kernel⟩,
    ⟨_, _, inv_answered_hdr, next_after (by decide +kernel), by decide +kernel, by decide +kernel, by decide +kernel⟩,
    ⟨_, _, inv_fin_over, next_after (by decide +kernel), by decide +kernel, by decide +kernel, by decide +kernel⟩⟩

theorem witness_HandshakeTable :
    ∃ s t, CoreInv s ∧ step s = .next t ∧ s.env.sched.head? ≠ some .reset ∧ t.hs ≠ s.hs :=
  ⟨queued [0x06#8] (written dataUnit), _, inv_written_data, next_after (by decide +kernel), by decide +kernel,
    by decide +kernel⟩

theorem witness_CoreInvariantKept : ∃ s t, CoreInv s ∧ step s = .next t ∧ t.phase ≠ s.phase :=
  ⟨scheduled .hostStart State.reset, _, by constructor <;> decide +kernel, next_after (by decide +kernel),
    by decide +kernel⟩

/-- The invariant holds in a unit of each kind, while a packet is built, and with each refusal's cause at hand. -/
theorem witness_NoFaultFromInvariant :
    CoreInv hdrUnit ∧ CoreInv eotUnit ∧ CoreInv finUnit
      ∧ CoreInv (after (execs 3 .pkt128Hdr (pointAt .headerSent .idle)))
      ∧ CoreInv (after (execs 4 .pkt128Hdr (pointAt .headerSent .idle)))
      ∧ CoreInv (withEnv (sizedFile (2 ^ 32)) (pointAt .headerSent .idle)) := by
  refine ⟨?_, ?_, ?_, ?_, ?_, ?_⟩ <;> constructor <;> decide +kernel

theorem witness_ParametersConstant : ∃ s t, step s = .next t ∧ t ≠ s :=
  ⟨queued [0x06#8] (written dataUnit), _, next_after (by decide +kernel), by decide +kernel⟩

/-- A step that writes, one that reads, one that reads the file, one that closes it. -/
theorem witness_SendAndWaitAlternate :
    (∃ s t, CoreTurn s ∧ step s = .next t ∧ t.env.wire ≠ s.env.wire)
    ∧ (∃ s t, CoreTurn s ∧ step s = .next t ∧ t.env.rxTaken ≠ s.env.rxTaken)
    ∧ (∃ s t, CoreTurn s ∧ step s = .next t ∧ t.env.fileReads ≠ s.env.fileReads)
    ∧ ∃ s t, CoreTurn s ∧ step s = .next t ∧ t.env = s.env.fileClosed ∧ t.env ≠ s.env :=
  ⟨⟨eotUnit, _, by decide +kernel, next_after (by decide +kernel), by decide +kernel⟩,
    ⟨queued [0x06#8] (written dataUnit), _, by decide +kernel, next_after (by decide +kernel), by decide +kernel⟩,
    ⟨pointAt .dataLoop .idle, _, by decide +kernel, next_after (by decide +kernel), by decide +kernel⟩,
    ⟨{ written finUnit with hs := .idle, lastRespValid := true }, _, by decide +kernel, next_after (by decide +kernel),
      by decide +kernel, by decide +kernel⟩⟩

theorem witness_LastRespWrittenByAwait :
    ∃ s t, CoreTurn s ∧ step s = .next t ∧ s.env.sched.head? ≠ some .reset ∧ t.lastResp ≠ s.lastResp
      ∧ s.phase.isBusy = true ∧ s.hs = .wait ∧ s.rxAnswer = .byte 0x06#8 :=
  ⟨queued [0x06#8] (written dataUnit), _, by decide +kernel, next_after (by decide +kernel), by decide +kernel,
    by decide +kernel, by decide +kernel, by decide +kernel, by decide +kernel⟩

/-- An advance, and a header that sets `SEQ` to 0. -/
theorem witness_SequenceRule :
    (∃ s t, step s = .next t ∧ s.env.sched.head? ≠ some .reset ∧ t.seq = s.seq + 1#8)
    ∧ ∃ s t, step s = .next t ∧ s.env.sched.head? ≠ some .reset ∧ s.seq = 5#8 ∧ t.seq = 0#8 :=
  ⟨⟨answered .ack dataUnit, _, next_after (by decide +kernel), by decide +kernel, by decide +kernel⟩,
    ⟨{ pointAt .eotSent .idle with seq := 5#8 }, _, next_after (by decide +kernel), by decide, rfl,
      by decide +kernel⟩⟩

/-- An abort for a response, one for a chunk of 1025 bytes, and one for a failed write. -/
theorem witness_AbortEntry :
    (∃ s t, step s = .next t ∧ s.phase ≠ .aborted ∧ t.phase = .aborted ∧ t.status = .unexpectedResponse)
    ∧ (∃ s t, step s = .next t ∧ s.phase ≠ .aborted ∧ t.phase = .aborted ∧ t.status = .framingError)
    ∧ ∃ s t, step s = .next t ∧ s.phase ≠ .aborted ∧ t.phase = .aborted ∧ t.status = .channelOrFileError :=
  ⟨⟨answered (.other 0x43#8) dataUnit, _, next_after (by decide +kernel), by decide +kernel, by decide +kernel,
      by decide +kernel⟩,
    ⟨{ pointAt .dataLoop .idle with bsel := true, todo := .dataSend (List.replicate 1025 0x00#8) }, _,
      next_after (by decide +kernel), by decide +kernel, by decide +kernel, by decide +kernel⟩,
    ⟨withEnv { Env.initial with txDraws := [.err] } eotUnit, _, next_after (by decide +kernel), by decide +kernel,
      by decide +kernel, by decide +kernel⟩⟩

theorem witness_OutsideSessionIdle :
    ∀ p ∈ [Phase.start, Phase.closed, Phase.aborted],
      (pointAt p .idle).phase.isBusy = false ∧ (pointAt p .idle).reservedCode = none
        ∧ (pointAt p .idle).env.sched = [] := by decide

/-- One state for each of the five points. -/
theorem witness_HangsForever :
    (BusyAt (written hdrUnit) .wait ∧ (written hdrUnit).rxAnswer = .wait ∧ (written hdrUnit).env.sched = [])
    ∧ (let s := { written dataUnit with hs := .ca2 };
      BusyAt s .ca2 ∧ s.rxAnswer = .wait)
    ∧ (let s := withEnv { Env.initial with txDraws := [.never] } eotUnit;
      BusyAt s .tx ∧ s.txAnswer = .never ∧ s.txidx < s.pktlen
        ∧ (s.packetByte s.txidx.toNat).toOption = some 0x04#8)
    ∧ (let s := withEnv { Env.initial with sizeDraws := [.never] } (pointAt .headerSent .idle);
      Between s .headerSent .none ∧ s.sizeAnswer = .never)
    ∧ (let s := withEnv { Env.initial with readDraws := [.never] } (pointAt .dataLoop .idle);
      Between s .dataLoop .none ∧ s.readAnswer = .never) := by decide +kernel

/-- A later session begins after one that ended in `FRAMING_ERROR`; a full chunk waits to be loaded. -/
theorem witness_FramingErrorUnreachable :
    (∃ s t, CoreInv s ∧ s.params.wellFormed = true ∧ FileKeepsBound s ∧ step s = .next t ∧ t.status = .framingError)
    ∧ ∃ s t, CoreInv s ∧ s.params.wellFormed = true ∧ FileKeepsBound s ∧ step s = .next t ∧ t.todo = .pad :=
  ⟨⟨{ pointAt .aborted .idle with status := .framingError, fclosed := true }, _, by constructor <;> decide +kernel,
      by decide, ⟨fun _ h => (nomatch h), fun _ h => (nomatch h)⟩, next_after (by decide +kernel), by decide +kernel⟩,
    ⟨{ pointAt .dataLoop .idle with bsel := true, todo := .dataSend (List.replicate 1024 0x00#8) }, _,
      by constructor <;> decide +kernel, by decide,
      ⟨fun _ h => (nomatch h), fun _ h => by injection h with h; rw [← h, List.length_replicate]⟩,
      next_after (by decide +kernel), by decide +kernel⟩⟩

theorem witness_SendWritesWholeUnit :
    BusyAt finUnit .tx ∧ finUnit.pbuf.wf = true ∧ finUnit.env.sched = []
      ∧ finUnit.unitBytes = some ([0x01#8, 0x00#8, 0xFF#8, 0x00#8, 0x30#8, 0x20#8] ++ List.replicate 125 0x1A#8
          ++ [0xB8#8, 0xC3#8])
      ∧ finUnit.txidx = 0#11 ∧ finUnit.pktlen.toNat = 133 ∧ finUnit.env.txDraws = [] := by decide +kernel

theorem witness_RetrySendsSameBytes :
    CoreInv (retries 1 (queued [0x15#8] (written eotUnit)))
    ∧ (let s := retries 1 (queued [0x15#8] (written eotUnit));
      s.phase.isBusy = true ∧ s.hs = .wait ∧ s.env.sched = [] ∧ s.rxAnswer = .byte 0x15#8 ∧ s.kind ≠ .fin
        ∧ s.retry < s.params.maxRetries ∧ s.unitBytes = some [0x04#8]
        ∧ ∀ d ∈ s.env.txDraws.take 1, d = .accept) := by
  refine ⟨by constructor <;> decide +kernel, by decide +kernel⟩

theorem witness_DataPacketCycle :
    let s := withEnv { fileOf [0x41#8, 0x42#8, 0x43#8] with rxQueue := [0x06#8] }
      { pointAt .dataLoop .idle with seq := 1#8, bsel := true }
    CoreInv s ∧ s.phase = .dataLoop ∧ s.hs = .idle ∧ s.todo = .none ∧ s.env.sched = []
      ∧ s.readAnswer = .chunk [0x41#8, 0x42#8, 0x43#8] ∧ s.seq ≠ 0#8 ∧ s.rxAnswer = .byte 0x06#8
      ∧ ∀ d ∈ s.env.txDraws.take 1029, d = .accept := by
  refine ⟨by constructor <;> decide +kernel, by decide +kernel⟩

/-- An empty file: three `ACK`s, two polls. -/
theorem witness_AcknowledgedSession :
    let s := withEnv { Env.initial with
        sched := .hostStart :: List.replicate 3 (.receiver 0x06#8), pollDraws := [.absent, .absent] } State.reset
    CoreInv s ∧ LaunchPremises s
      ∧ (s.phase.isBusy = false ∧ s.params.wellFormed = true ∧ s.env.file.size = s.env.file.data.length
        ∧ s.env.sched = .hostStart :: List.replicate ((s.env.file.data.length + 1023) / 1024 + 3) (.receiver 0x06#8)
        ∧ (s.env.file.data.length + 1023) / 1024 + 2 ≤ s.env.pollDraws.length
        ∧ ∀ d ∈ s.env.pollDraws, d = .absent) := by
  refine ⟨by constructor <;> decide +kernel, ⟨rfl, rfl, rfl, by decide⟩, by decide +kernel⟩

theorem witness_StaleRegistersNeverRead :
    let t := { State.reset with crc := 0xFFFF#16, plen := 5#11, pktlen := 7#11, fsize := 9, kind := .fin, lastResp := 6#8 }
    State.reset.phase.isBusy = false
      ∧ t = { State.reset with
          crc := t.crc, pbuf := t.pbuf, plen := t.plen, pktlen := t.pktlen, fsize := t.fsize, kind := t.kind
          lastResp := t.lastResp }
      ∧ State.reset.lastRespValid = false ∧ t ≠ State.reset := by decide

end Sys2Proof.Tests
end

