-- ==== Sys2Proof/Proofs/Scope.lean ====
section
/-!
SUPPORT. The statements of spec/00_scope.md: the header fields and their reader (R10, R86, R87, R146), and the
launches that are refused (R10, R272).
-/

namespace Sys2Proof

/-! ### Well-formed parameters -/

theorem Params.wellFormed_iff {p : Params} :
    p.wellFormed = true ↔ p.logicalName ≠ [] ∧ 0#8 ∉ p.logicalName
      ∧ p.logicalName.length ≤ Config.maxNameLength ∧ p.sizeBits ≤ 32 := by
  simp [Params.wellFormed, and_assoc]

namespace Machine

/-! ### The decimal digits of a size -/

theorem digitByte_toNat {d : Nat} (h : d < 10) : (digitByte d).toNat = 48 + d := by
  simp [digitByte]; omega

/-- Each decimal digit is read back as itself. -/
theorem readDecimal_digitByte_cons {d : Nat} (h : d < 10) (s : List Byte) (acc : Nat) :
    readDecimal (digitByte d :: s) acc = readDecimal s (10 * acc + d) := by
  have hd := digitByte_toNat h
  have hrange : 0x30#8 ≤ digitByte d ∧ digitByte d ≤ 0x39#8 := by
    simp [BitVec.le_def, hd]; omega
  have hval : (digitByte d - 0x30#8).toNat = d := by
    rw [BitVec.toNat_sub_of_le hrange.1, hd]; simp
  rw [readDecimal, if_pos hrange, hval]

theorem decDigits_append : ∀ (fuel n : Nat) (acc rest : List Byte),
    decDigits fuel n acc ++ rest = decDigits fuel n (acc ++ rest)
  | 0, _, _, _ => rfl
  | fuel + 1, n, acc, rest => by
    unfold decDigits
    split
    · rfl
    · rw [decDigits_append fuel, List.cons_append]

/-- With enough fuel the digits written in front of `acc` are read back as the number they stand for. -/
theorem readDecimal_decDigits : ∀ {fuel n : Nat}, n ≤ fuel → ∀ acc : List Byte,
    readDecimal (decDigits fuel n acc) 0 = readDecimal acc n
  | 0, n, h, acc => by rw [Nat.le_zero.mp h]; rfl
  | fuel + 1, n, h, acc => by
    unfold decDigits
    split
    case isTrue h0 => rw [h0]
    case isFalse h0 =>
      rw [readDecimal_decDigits (by omega), readDecimal_digitByte_cons (Nat.mod_lt n (by omega)), Nat.div_add_mod]

/-- The digits of a size, ended by the space of R86, are read back as the size. -/
theorem readDecimal_decEncode (size : Nat) (rest : List Byte) :
    readDecimal (decEncode size ++ 0x20#8 :: rest) 0 = size := by
  have hend (acc : Nat) : readDecimal (0x20#8 :: rest) acc = acc := by
    rw [readDecimal, if_neg (by decide)]
  unfold decEncode
  split
  case isTrue h0 =>
    calc readDecimal (digitByte 0 :: 0x20#8 :: rest) 0
        = readDecimal (0x20#8 :: rest) 0 := readDecimal_digitByte_cons (by omega) _ _
      _ = size := by rw [hend, h0]
  case isFalse h0 =>
    rw [decDigits_append, readDecimal_decDigits le_rfl, List.nil_append, hend]

theorem decDigits_length_le : ∀ (fuel k n : Nat) (acc : List Byte), n < 10 ^ k →
    (decDigits fuel n acc).length ≤ acc.length + k
  | 0, _, _, _, _ => Nat.le_add_right _ _
  | fuel + 1, k, n, acc, h => by
    unfold decDigits
    split
    case isTrue => omega
    case isFalse h0 =>
      cases k with
      | zero => omega
      | succ k =>
        have := decDigits_length_le fuel k (n / 10) (digitByte (n % 10) :: acc) (by omega)
        rw [List.length_cons] at this
        omega

/-- A size below `10 ^ k` takes at most `k` digits (R87). -/
theorem decEncode_length_le {size k : Nat} (hk : 0 < k) (h : size < 10 ^ k) : (decEncode size).length ≤ k := by
  unfold decEncode
  split
  · exact hk
  · simpa using decDigits_length_le size k size [] h

/-! ### The header fields -/

theorem headerFields_length (name : List Byte) (size : Nat) :
    (headerFields name size).length = name.length + (decEncode size).length + 2 := by
  simp [headerFields]; omega

/-- Ten digits, the longest name and the two separators fill the block (R10, R146). -/
theorem headerFields_fits {p : Params} {size : Nat} (hp : p.wellFormed = true) (hs : size < 2 ^ p.sizeBits) :
    (headerFields p.logicalName size).length ≤ 128 := by
  obtain ⟨-, -, hname, hbits⟩ := Params.wellFormed_iff.mp hp
  have hsize : size < 10 ^ 10 :=
    calc size < 2 ^ p.sizeBits := hs
      _ ≤ 2 ^ 32 := Nat.pow_le_pow_right (by omega) hbits
      _ ≤ 10 ^ 10 := by norm_num
  have hdigits := decEncode_length_le (by omega) hsize
  rw [Config.maxNameLength] at hname
  rw [headerFields_length]
  omega

/-- The first NUL ends the name, so a name without one is read back whole (R86). -/
theorem readHeader_name_nul {name : List Byte} (h : 0#8 ∉ name) (rest : List Byte) :
    readHeader (name ++ 0x00#8 :: rest) = (name, readDecimal rest 0) := by
  have hne : ∀ b ∈ name, (b != 0#8) = true := fun b hb => bne_iff_ne.mpr (ne_of_mem_of_not_mem hb h)
  simp [readHeader, List.takeWhile_append_of_pos hne, List.dropWhile_append_of_pos hne]

theorem readHeader_padded_headerFields {name : List Byte} (h : 0#8 ∉ name) (padByte : Byte) (bs size : Nat) :
    readHeader (padded padByte bs (headerFields name size)) = (name, size) := by
  simp only [padded, headerFields, List.append_assoc, List.cons_append, List.nil_append]
  rw [readHeader_name_nul h, readDecimal_decEncode]

/-! ### Launches that are refused -/

variable {s : State}

theorem exec_hostStart (s : State) : exec .hostStart s = execHostStart s := rfl

/-- A command at its control point while `BUSY` = 0: the parameters are looked at first, then the premises. -/
theorem execHostStart_notBusy (hr : s.reservedCode = none) (hb : s.phase.isBusy = false)
    (hh : s.env.sched.head? = some .hostStart) :
    execHostStart s = if !s.params.wellFormed then .refused .illFormedParams
      else if !s.launchable then .refused .launchPremiseBroken
      else .next (sessionStart s.moved) := by
  rw [execHostStart, atControl_of hr (by rw [hh]; rfl), State.busy, hb]
  rfl

/-- One broken premise stops a launch; an RX queue that is not empty does so only where no stale bytes are
admitted. -/
theorem launchable_eq_false_iff :
    s.launchable = false ↔ s.env.channelReady = false ∨ s.env.crcModeRequested = false ∨ s.fileAtZero = false
      ∨ (s.rxQueueEmpty = false ∧ s.env.staleRxAdmitted = false) := by
  simp only [State.launchable, Bool.and_eq_false_iff, Bool.or_eq_false_iff]
  tauto

end Machine

/-! ### The obligations -/

/-- Settles O13: the lengths add up to at most 128, and the reader stops at the NUL and at the space. -/
theorem headerRoundTrip : Obligations.HeaderRoundTrip := by
  intro p size hp hs
  obtain ⟨-, hnul, -, -⟩ := Params.wellFormed_iff.mp hp
  exact ⟨Machine.headerFields_length _ _, Machine.headerFields_fits hp hs,
    Machine.readHeader_padded_headerFields hnul _ _ _⟩

/-- Settles O39: the parameters are checked before the premises, each with a refusal of its own. -/
theorem badLaunchRefused : Obligations.BadLaunchRefused := by
  intro s hr hb hh
  rw [Machine.exec_hostStart, Machine.execHostStart_notBusy hr hb hh]
  refine ⟨fun hp => ?illFormed, fun hp hbroken => ?premise⟩
  case illFormed => simp [hp]
  case premise => simp [hp, Machine.launchable_eq_false_iff.mpr hbroken]

end Sys2Proof
end

section
/-!
SUPPORT. The statements of spec/10_state.md: where an instruction runs and what it does there; what one step can do,
as one inductive relation `CoreMove`; the transmitted forms built step by step; the received bytes; the invariant, the
table of `PHASE` and the rule of `SEQ`, each by the cases of `CoreMove`.
-/

namespace Sys2Proof.Machine

/-! ### An instruction at its control point, and away from it -/

/-- What an instruction does once it is at its control point (R29). -/
def meaning : Instr → State → Out
  | .pkt128Hdr, s => unitStep sizeProbe s
  | .pkt1024Data, s => unitStep dataRead s
  | .eot, s => unitStep dataRead s
  | .pkt128Fin, s => unitStep (fun u => .go (finSend u)) s
  | .rxAck, s =>
    .next (if s.gate then { awaited Config.ack s with hs := .probe } else returned .ack (awaited Config.ack s))
  | .rxCa, s => .next { awaited Config.ca s with hs := .ca2 }
  | .rxNak, s =>
    .next (if s.kind ≠ .fin ∧ s.retry < s.params.maxRetries then
        beginSend false { awaited Config.nak s with retry := s.retry + 1 }
      else returned (.other Config.nak) (awaited Config.nak s))
  | .rxOther b, s => .next (returned (.other b) (awaited b s))
  | .rxCa2Any b, s => .next (returned .cancel (s.rxTook b))
  | .rxExtraAny o, s => .next (returned .ack (s.pollTook o))
  | .hostStart, s =>
    if s.busy then .next s.moved
    else if !s.params.wellFormed then .refused .illFormedParams
    else if !s.launchable then .refused .launchPremiseBroken
    else .next (sessionStart s.moved)

/-- Every instruction is its meaning behind the guard that `Enabled` states. -/
theorem exec_eq_atControl (i : Instr) (s : State) :
    ∃ c : Bool, (c = true ↔ Enabled i s) ∧ exec i s = atControl s c (meaning i s) := by
  cases i <;> refine ⟨_, ?_, rfl⟩ <;>
    simp only [Enabled, Bool.or_eq_true, Bool.and_eq_true, Bool.not_eq_true', isAt_iff, reads_iff, beq_iff_eq,
      bne_iff_ne, isResp_false_iff, eotNext_iff, eotNext_false_iff, State.busy] <;>
    tauto

variable {i : Instr} {s t : State}

theorem exec_of_reservedCode {f : Fault} (hr : s.reservedCode = some f) : exec i s = .fault f := by
  obtain ⟨c, -, he⟩ := exec_eq_atControl i s
  rw [he, atControl, hr]

theorem exec_of_enabled (hr : s.reservedCode = none) (h : Enabled i s) : exec i s = meaning i s := by
  obtain ⟨c, hc, he⟩ := exec_eq_atControl i s
  rw [he, atControl_of hr (hc.mpr h)]

theorem exec_of_not_enabled (hr : s.reservedCode = none) (h : ¬ Enabled i s) :
    exec i s = .refused .notAtControlPoint := by
  obtain ⟨c, hc, he⟩ := exec_eq_atControl i s
  rw [he, atControl, hr]
  exact if_neg (mt hc.mp h)

/-- An instruction that answers a next state was at its control point. -/
theorem exec_next (h : exec i s = .next t) : s.reservedCode = none ∧ Enabled i s ∧ meaning i s = .next t := by
  obtain ⟨c, hc, he⟩ := exec_eq_atControl i s
  rw [he, atControl_next] at h
  exact ⟨h.1, hc.mp h.2.1, h.2.2⟩

/-! ### What a step of a transmitted form refuses -/

theorem runTodo_out_not_refused (s : State) (r : Refusal) : (runTodo s).out ≠ .refused r := by
  intro h
  rcases runTodo_cases s with ⟨-, e⟩ | ⟨-, e⟩ | ⟨-, e⟩ | ⟨_, -, e⟩ | ⟨-, e⟩ | ⟨-, e⟩ | ⟨-, e⟩ | ⟨-, e⟩ | ⟨_, -, e⟩ <;>
    simp only [e] at h <;> (try split at h) <;> cases h

/-- A step of a transmitted form is refused only by its first operation. -/
theorem unitStep_refused {first : State → Flow} {r : Refusal} (h : unitStep first s = .refused r) :
    first s = .refuse r := by
  unfold unitStep at h
  split at h
  · exact absurd h sendByte_not_refused
  · split at h
    · cases hf : first s <;> rw [hf] at h <;> cases h
      rfl
    · exact absurd h (runTodo_out_not_refused s r)

theorem sizeProbe_refuse {r : Refusal} (h : sizeProbe s = .refuse r) : r = .fileTooLong := by
  rcases sizeProbe_cases s with ⟨-, e⟩ | ⟨-, e⟩ | ⟨-, e⟩ | ⟨-, -, e⟩ | ⟨-, -, e⟩ <;> rw [e] at h <;> cases h
  rfl

theorem dataRead_not_refuse {r : Refusal} : dataRead s ≠ .refuse r := by
  intro h
  rcases dataRead_cases s with ⟨-, e⟩ | ⟨-, e⟩ | ⟨-, e⟩ | ⟨-, e⟩ | ⟨_, -, -, e⟩ <;> rw [e] at h <;> cases h

/-- At its control point no instruction answers that it is away from it. -/
theorem meaning_ne_notAtControlPoint : meaning i s ≠ .refused .notAtControlPoint := by
  intro h
  cases i with
  | pkt128Hdr => cases sizeProbe_refuse (unitStep_refused h)
  | pkt1024Data => exact dataRead_not_refuse (unitStep_refused h)
  | eot => exact dataRead_not_refuse (unitStep_refused h)
  | pkt128Fin => cases unitStep_refused (first := fun u => .go (finSend u)) h
  | hostStart =>
    simp only [meaning] at h
    split_ifs at h <;> cases h
  | rxAck => cases h
  | rxCa => cases h
  | rxNak => cases h
  | rxOther b => cases h
  | rxCa2Any b => cases h
  | rxExtraAny o => cases h

/-! ### No reserved code at a control point -/

theorem busy_ne_reserved {p : Phase} (h : p.isBusy = true) : p ≠ .reserved7 := by
  rintro rfl
  cases h

theorem reservedCode_of_busyAt {h : Hs} (hs : BusyAt s h) (hh : h.isReserved = false) : s.reservedCode = none := by
  obtain ⟨hb, rfl, hst⟩ := hs
  exact reservedCode_eq_none.mpr ⟨busy_ne_reserved hb, hh, hst⟩

/-- A control point with a busy phase is one of `BusyAt`. -/
theorem busyAt_of_at {p : Phase} {h : Hs} (hs : At s p h) (hp : p.isBusy = true) : BusyAt s h := by
  obtain ⟨rfl, hh, hst⟩ := hs
  exact ⟨hp, hh, hst⟩

end Sys2Proof.Machine

namespace Sys2Proof

open Machine

/-- Settles O41: away from its control point the guard refuses; at it no meaning answers that refusal. -/
theorem offControlPointRefused : Obligations.OffControlPointRefused := by
  intro i s hr
  refine ⟨fun h he => ?_, exec_of_not_enabled hr⟩
  rw [exec_of_enabled hr he] at h
  exact meaning_ne_notAtControlPoint h

/-- Settles O42: the three codes are looked at in this order, before anything else. -/
theorem reservedCodesFault : Obligations.ReservedCodesFault := by
  intro s f h
  have hr : s.reservedCode = some f := by
    rcases h with ⟨hp, rfl⟩ | ⟨hp, hh, rfl⟩ | ⟨hp, hh, hst, rfl⟩
    · simp [State.reservedCode, hp]
    · simp [State.reservedCode, hp, hh]
    · simp [State.reservedCode, hp, hh, hst]
  exact ⟨fun i => exec_of_reservedCode hr, fun hc => step_coreTurn_reserved hc hr⟩

end Sys2Proof

namespace Sys2Proof.Machine

variable {s t : State}

/-! ### The core's turn -/

theorem step_eq_coreStep (h : CoreTurn s) (hr : s.reservedCode = none) : step s = coreStep s.moved := by
  rw [step_coreTurn h hr, turn_eq]
  rfl

/-- Where the control point selects an instruction, the core's step is that instruction (R29). -/
theorem step_eq_exec {i : Instr} (h : CoreTurn s) (hr : s.reservedCode = none)
    (hf : coreFetch s.moved = .run i s.moved) : step s = exec i s.moved := by
  rw [step_eq_coreStep h hr, coreStep, hf]

theorem coreFetch_idle (hb : s.phase.isBusy = true) (hh : s.hs = .idle) : coreFetch s = fetchIdle s := by
  simp [coreFetch, State.busy, hb, hh]

theorem coreFetch_tx (hb : s.phase.isBusy = true) (hh : s.hs = .tx) : coreFetch s = fetchSend s := by
  simp [coreFetch, State.busy, hb, hh]

theorem coreFetch_wait (hb : s.phase.isBusy = true) (hh : s.hs = .wait) : coreFetch s = fetchRead .response s := by
  simp [coreFetch, State.busy, hb, hh]

theorem coreFetch_ca2 (hb : s.phase.isBusy = true) (hh : s.hs = .ca2) : coreFetch s = fetchRead .cancelSecond s := by
  simp [coreFetch, State.busy, hb, hh]

theorem coreFetch_probe (hb : s.phase.isBusy = true) (hh : s.hs = .probe) : coreFetch s = fetchPoll s := by
  simp [coreFetch, State.busy, hb, hh]

theorem fetchRead_byte {p : ReadPoint} {b : Byte} {i : Instr} (ha : s.rxAnswer = .byte b) (hd : decode p [b] = .ok i) :
    fetchRead p s = .run i s := by
  simp [fetchRead, ha, fetched, hd]

theorem fetchPoll_got {o : Option Byte} {i : Instr} (ha : s.pollAnswer = .got o) (hd : decode .extra o.toList = .ok i) :
    fetchPoll s = .run i s := by
  simp [fetchPoll, ha, fetched, hd]

theorem sendPhase_busy {i : Instr} {p : Phase} (h : sendPhase i = some p) : p.isBusy = true := by
  cases i <;> cases h <;> rfl

theorem fetchSend_of_sendPhase {i : Instr} {p : Phase} (h : sendPhase i = some p) (hp : s.phase = p) :
    fetchSend s = .run i s := by
  subst p
  unfold fetchSend
  cases i <;> simp only [sendPhase, Option.some.injEq, reduceCtorEq] at h <;> rw [← h]

/-- While the first `EOT` step is next, no response is pending. -/
theorem EotNext.not_answerPending (h : EotNext s) : ¬ AnswerPending s := by
  rintro ⟨r, hr⟩
  rcases h with h | ⟨h, -⟩ <;> rw [h] at hr <;> cases hr

theorem fetchIdle_headerSent (hp : s.phase = .headerSent) (h : ¬ AnswerPending s) :
    fetchIdle s = .run .pkt128Hdr s := by
  simp [fetchIdle, isResp_false_iff.mpr h, hp]

theorem fetchIdle_dataLoop (hp : s.phase = .dataLoop) (h : ¬ AnswerPending s) (he : ¬ EotNext s) :
    fetchIdle s = .run .pkt1024Data s := by
  simp [fetchIdle, isResp_false_iff.mpr h, hp, eotNext_false_iff.mpr he]

theorem fetchIdle_eotNext (hp : s.phase = .dataLoop) (he : EotNext s) : fetchIdle s = .run .eot s := by
  simp [fetchIdle, isResp_false_iff.mpr he.not_answerPending, hp, eotNext_iff.mpr he]

theorem fetchIdle_eotSent (hp : s.phase = .eotSent) (h : ¬ AnswerPending s) : fetchIdle s = .run .pkt128Fin s := by
  simp [fetchIdle, isResp_false_iff.mpr h, hp]

theorem fetchIdle_finSent (hp : s.phase = .finSent) (h : ¬ AnswerPending s) (ht : s.todo ≠ .none) :
    fetchIdle s = .run .pkt128Fin s := by
  simp [fetchIdle, isResp_false_iff.mpr h, hp, ht]

theorem decode_response_wellFormed {b : Byte} {i : Instr} (h : decode .response [b] = .ok i) : i.wellFormed = true := by
  cases h
  unfold decodeResponse
  split_ifs with h1 h2 h3 <;> simp_all [Instr.wellFormed]

/-- A scheduled `HostStart` on the command input is run as it is decoded (R96). -/
theorem step_hostStart (h : s.env.sched.head? = some .hostStart) : step s = exec .hostStart s := by
  obtain ⟨rest, hs⟩ := List.head?_eq_some_iff.mp h
  simp [step, fetch, hs, fetched, decode]

end Sys2Proof.Machine

namespace Sys2Proof

open Machine

/-- Settles O16: the control point selects the form, the byte read selects the response's row. -/
theorem stepRunsDecoded : Obligations.StepRunsDecoded := by
  refine ⟨fun s hc hr => ?core, fun s i hh hd => ?host⟩
  case host =>
    cases hd
    exact step_hostStart hh
  case core =>
    have idle {p : Phase} {i : Instr} (hp : s.phase = p) (hb : p.isBusy = true) (hh : s.hs = .idle)
        (hf : fetchIdle s.moved = .run i s.moved) : step s = exec i s.moved :=
      step_eq_exec hc hr ((coreFetch_idle (s := s.moved) (hp ▸ hb) hh).trans hf)
    refine ⟨fun i p hi hp hh => ?_, fun hp hh hn => ?_, fun hp hh hn he => ?_, fun hp hh he => ?_, fun hp hh hn => ?_,
      fun hp hh hn ht => ?_, fun b i hb hh ha hd => ⟨decode_response_wellFormed hd, ?_⟩, fun b i hb hh ha hd => ?_,
      fun o i hb hh ha hd => ?_⟩
    · exact step_eq_exec hc hr ((coreFetch_tx (s := s.moved) (hp ▸ sendPhase_busy hi) hh).trans
        (fetchSend_of_sendPhase hi hp))
    · exact idle hp rfl hh (fetchIdle_headerSent (s := s.moved) hp hn)
    · exact idle hp rfl hh (fetchIdle_dataLoop (s := s.moved) hp hn he)
    · exact idle hp rfl hh (fetchIdle_eotNext (s := s.moved) hp he)
    · exact idle hp rfl hh (fetchIdle_eotSent (s := s.moved) hp hn)
    · exact idle hp rfl hh (fetchIdle_finSent (s := s.moved) hp hn ht)
    · exact step_eq_exec hc hr ((coreFetch_wait (s := s.moved) hb hh).trans (fetchRead_byte ha hd))
    · exact step_eq_exec hc hr ((coreFetch_ca2 (s := s.moved) hb hh).trans (fetchRead_byte ha hd))
    · exact step_eq_exec hc hr ((coreFetch_probe (s := s.moved) hb hh).trans (fetchPoll_got ha hd))

end Sys2Proof

namespace Sys2Proof.Machine

variable {r : Resp} {s : State}

/-! ### Timeouts -/

/-- A read times out only with `TIMEOUT_ENABLED` (R27). -/
theorem timeoutEnabled_of_rxAnswer (h : s.rxAnswer = .timeout) : s.params.timeoutEnabled = true := by
  have oldest : s.rxOldest ≠ .timeout := by unfold State.rxOldest; split <;> nofun
  unfold State.rxAnswer at h
  split at h
  · cases h
  · by_contra hne
    rw [if_neg hne] at h
    exact oldest h
  · exact absurd h oldest

/-! ### The operation on a response, by phase -/

theorem respond_finSent (hp : s.phase = .finSent) : respond r s = { s with todo := .none } := by
  simp [respond, hp, finResp]

/-- What an abort finds in `PHASE` and in the place between two steps does not matter: it writes both (R242). -/
theorem raiseAbort_overwrites (st : Status) (p : Phase) (d : Todo) (s : State) :
    raiseAbort st { s with phase := p, todo := d } = raiseAbort st s := by
  simp only [raiseAbort, State.closeFile]
  split <;> rfl

/-- Before the closing header, a response that is no `Ack` aborts (R205, R208, R210, R244, R245). -/
theorem respond_aborts (hp : s.phase = .headerSent ∨ s.phase = .dataLoop ∨ s.phase = .eotSent) :
    respond .cancel s = raiseAbort .cancelled s
      ∧ ∀ b, respond (.other b) s = raiseAbort .unexpectedResponse s := by
  rcases hp with hp | hp | hp <;> simp only [respond, hp, hdrResp, dataResp, eotResp] <;>
    exact ⟨raiseAbort_overwrites _ _ _ s, fun _ => raiseAbort_overwrites _ _ _ s⟩

end Sys2Proof.Machine

namespace Sys2Proof.Machine

variable {s t : State}

/-! ### What the core's own step can do -/

/-- `LOAD_PAYLOAD(src)` is next, with `KIND` = `k` (R204, R207, R211). -/
def Loads (s : State) (k : Kind) (src : List Byte) : Prop :=
  (s.todo = .hdrEncode ∧ k = s.kind ∧ src = headerFields s.params.logicalName s.fsize)
  ∨ (s.todo = .dataSend src ∧ k = .data)
  ∨ (s.todo = .finEncode ∧ k = s.kind ∧ src = headerFields [] 0)

/-- A transaction is held back: only its draw is used up (R23, R253). -/
def Held (s u : State) : Prop :=
  (s.phase = .headerSent ∧ s.hs = .idle ∧ s.todo = .none ∧ s.sizeAnswer = .hold ∧ u = s.sizeAnswered)
  ∨ (s.phase = .dataLoop ∧ s.hs = .idle ∧ s.todo = .none ∧ s.readAnswer = .hold ∧ u = s.readHeld)
  ∨ (s.hs = .tx ∧ s.txAnswer = .hold ∧ u = s.txAnswered)

/-- What an abort with the status `st` finds written in its step: `KIND` before a chunk that is too long, or the draw
of the transaction that failed (R26, R207, R242). -/
def BeforeAbort (s : State) (st : Status) (u : State) : Prop :=
  u = s
  ∨ (st = .framingError ∧ u = { s with kind := .data })
  ∨ (s.phase = .headerSent ∧ s.hs = .idle ∧ s.todo = .none ∧ s.sizeAnswer = .err ∧ u = s.sizeAnswered)
  ∨ (s.phase = .dataLoop ∧ s.hs = .idle ∧ s.todo = .none ∧ s.readAnswer = .err ∧ u = s.readFailed)
  ∨ (s.hs = .tx ∧ s.txAnswer = .err ∧ u = s.txAnswered)
  ∨ ((s.hs = .wait ∨ s.hs = .ca2) ∧ (s.rxAnswer = .err ∨ s.rxAnswer = .timeout) ∧ u = s.rxFailed)
  ∨ (s.hs = .probe ∧ s.pollAnswer = .err ∧ u = s.pollFailed)

/-- The core's own step from `s`, one constructor for each thing it can do where it answers a next state. -/
inductive CoreMove (s : State) : State → Prop
  /-- nothing to do, or nothing that answers (R21, R217, R253) -/
  | waits : CoreMove s s
  /-- a transaction that is held back (R23) -/
  | held {u : State} (hu : Held s u) : CoreMove s u
  /-- an abort (R242) -/
  | aborts {st : Status} {u : State} (hb : s.phase.isBusy = true) (hu : BeforeAbort s st u)
      (cause : AbortCause s (raiseAbort st u)) : CoreMove s (raiseAbort st u)
  /-- `SIZE_PROBE` (R203) -/
  | measures (hh : s.hs = .idle) (ht : s.todo = .none) (hp : s.phase = .headerSent) (ha : s.sizeAnswer = .answer)
      (hfit : s.env.file.size < 2 ^ s.params.sizeBits) :
      CoreMove s { s.sizeAnswered with fsize := s.env.file.size, todo := .hdrSend }
  /-- `DATA_READ` at the end of the file (R206) -/
  | readsNone (hh : s.hs = .idle) (ht : s.todo = .none) (hp : s.phase = .dataLoop) (ha : s.readAnswer = .chunk []) :
      CoreMove s { s.readTook 0 with todo := .eotSend }
  /-- `DATA_READ` (R206) -/
  | readsChunk {chunk : List Byte} (hh : s.hs = .idle) (ht : s.todo = .none) (hp : s.phase = .dataLoop)
      (hne : chunk ≠ []) (ha : s.readAnswer = .chunk chunk) :
      CoreMove s { s.readTook chunk.length with todo := .dataSend chunk }
  /-- `FIN_SEND` (R211) -/
  | beginsFin (hh : s.hs = .idle) (ht : s.todo = .none) (hp : s.phase = .eotSent) : CoreMove s (finSend s)
  /-- `finish(SUCCESS)` (R212, R216) -/
  | ends (hh : s.hs = .idle) (ht : s.todo = .none) (hp : s.phase = .finSent) : CoreMove s (finish .success s)
  /-- `HDR_SEND` (R204) -/
  | beginsHdr (hh : s.hs = .idle) (ht : s.todo = .hdrSend) : CoreMove s (hdrSend s)
  /-- `LOAD_PAYLOAD` (R143) -/
  | loads {k : Kind} {src : List Byte} (hh : s.hs = .idle) (hload : Loads s k src) (hfit : src.length ≤ s.blockSize) :
      CoreMove s { loaded src { s with kind := k } with todo := .pad }
  /-- `EOT_SEND` (R209) -/
  | beginsEot (hh : s.hs = .idle) (ht : s.todo = .eotSend) : CoreMove s (eotSend s)
  /-- `PAD` (R144) -/
  | pads (hh : s.hs = .idle) (ht : s.todo = .pad) : CoreMove s { pad s with todo := .buildPacket }
  /-- `BUILD_PACKET` (R148) -/
  | builds {payload : List Byte} (hh : s.hs = .idle) (ht : s.todo = .buildPacket)
      (hm : memRead s.pbuf 0 s.blockSize = some payload) : CoreMove s (sending payload s)
  /-- an `Ack` to the opening header (R205) -/
  | acksHdr (hh : s.hs = .idle) (ht : s.todo = .resp .ack) (hp : s.phase = .headerSent) :
      CoreMove s { selectFraming true (advance s) with phase := .dataLoop, todo := .none }
  /-- an `Ack` to a data packet (R208) -/
  | acksData (hh : s.hs = .idle) (ht : s.todo = .resp .ack) (hp : s.phase = .dataLoop) :
      CoreMove s { advance s with todo := .none }
  /-- an `Ack` to the `EOT`, or any response to the closing header (R210, R212) -/
  | rests {r : Resp} (hh : s.hs = .idle) (ht : s.todo = .resp r)
      (hp : (s.phase = .eotSent ∧ r = .ack) ∨ s.phase = .finSent) : CoreMove s { s with todo := .none }
  /-- `TxWrite` (R171) -/
  | writes {b : Byte} (hh : s.hs = .tx) (hlt : s.txidx < s.pktlen) (hb : s.packetByte s.txidx.toNat = .ok b)
      (ha : s.txAnswer = .accept) : CoreMove s (byteSent (s.txWritten b))
  /-- nothing was left to write -/
  | written (hh : s.hs = .tx) (hlt : ¬ s.txidx < s.pktlen) : CoreMove s { s with hs := .wait }
  /-- `ON_ACK` with the gate open (R175) -/
  | probes (hh : s.hs = .wait) (ha : s.rxAnswer = .byte Config.ack) (hg : s.gate = true) :
      CoreMove s { awaited Config.ack s with hs := .probe }
  /-- the first half of `ON_CA` (R178) -/
  | cancels (hh : s.hs = .wait) (ha : s.rxAnswer = .byte Config.ca) : CoreMove s { awaited Config.ca s with hs := .ca2 }
  /-- a `NAK` with a retry left (R180) -/
  | retries (hh : s.hs = .wait) (ha : s.rxAnswer = .byte Config.nak) (hk : s.kind ≠ .fin)
      (hr : s.retry < s.params.maxRetries) :
      CoreMove s (beginSend false { awaited Config.nak s with retry := s.retry + 1 })
  /-- the response read ends `HANDSHAKE` (R175, R179, R180) -/
  | answers {r : Resp} {b : Byte} (hh : s.hs = .wait) (ha : s.rxAnswer = .byte b) (hr : Answered s r) :
      CoreMove s (returned r (awaited b s))
  /-- the second half of `ON_CA` (R178) -/
  | cancelled {b : Byte} (hh : s.hs = .ca2) (ha : s.rxAnswer = .byte b) : CoreMove s (returned .cancel (s.rxTook b))
  /-- `PROBE` (R176) -/
  | probed {o : Option Byte} (hh : s.hs = .probe) (ha : s.pollAnswer = .got o) :
      CoreMove s (returned .ack (s.pollTook o))

/-- A transaction that is held back changes the environment alone. -/
theorem Held.eq_env {u : State} (h : Held s u) :
    ∃ e : Env, e.staleRxAdmitted = s.env.staleRxAdmitted ∧ u = { s with env := e } := by
  rcases h with ⟨-, -, -, -, rfl⟩ | ⟨-, -, -, -, rfl⟩ | ⟨-, -, rfl⟩
  · exact ⟨s.sizeAnswered.env, rfl, rfl⟩
  · exact ⟨s.readHeld.env, rfl, rfl⟩
  · exact ⟨s.txAnswered.env, rfl, rfl⟩

/-- Of the core only `KIND` was written before an abort in its step. -/
theorem BeforeAbort.eq_kind_env {st : Status} {u : State} (h : BeforeAbort s st u) :
    ∃ (k : Kind) (e : Env), e.staleRxAdmitted = s.env.staleRxAdmitted ∧ u = { s with kind := k, env := e } := by
  rcases h with rfl | ⟨-, rfl⟩ | ⟨-, -, -, -, rfl⟩ | ⟨-, -, -, -, rfl⟩ | ⟨-, -, rfl⟩ | ⟨-, -, rfl⟩ | ⟨-, -, rfl⟩
  · exact ⟨u.kind, u.env, rfl, rfl⟩
  · exact ⟨.data, s.env, rfl, rfl⟩
  · exact ⟨s.kind, s.sizeAnswered.env, rfl, rfl⟩
  · exact ⟨s.kind, s.readFailed.env, rfl, rfl⟩
  · exact ⟨s.kind, s.txAnswered.env, rfl, rfl⟩
  · exact ⟨s.kind, s.rxFailed.env, rfl, rfl⟩
  · exact ⟨s.kind, s.pollFailed.env, rfl, rfl⟩

/-- An abort in the step of the transaction that fails (R246). -/
theorem CoreMove.fails {u : State} (hb : s.phase.isBusy = true) (hu : BeforeAbort s .channelOrFileError u)
    (h : TransactionError s) : CoreMove s (raiseAbort .channelOrFileError u) :=
  .aborts hb hu (.inr (.inr (.inr (.inl ⟨rfl, h⟩))))

/-- An abort in the step of the read that fails or times out (R172, R178, R246, R247). -/
theorem CoreMove.failsRead (hb : s.phase.isBusy = true) (hh : s.hs = .wait ∨ s.hs = .ca2) :
    (s.rxAnswer = .err → CoreMove s (raiseAbort .channelOrFileError s.rxFailed))
    ∧ (s.rxAnswer = .timeout → CoreMove s (raiseAbort .timeout s.rxFailed)) := by
  have before {st : Status} (h : s.rxAnswer = .err ∨ s.rxAnswer = .timeout) : BeforeAbort s st s.rxFailed :=
    .inr (.inr (.inr (.inr (.inr (.inl ⟨hh, h, rfl⟩)))))
  exact ⟨fun ha => .fails hb (before (.inl ha)) (.inr (.inr (.inr (.inl ⟨hh, ha⟩)))),
    fun ha => .aborts hb (before (.inr ha))
      (.inr (.inr (.inr (.inr ⟨rfl, timeoutEnabled_of_rxAnswer ha, hh, ha⟩))))⟩

/-- The sequencer's operation on a response (R205, R208, R210, R212). -/
theorem respond_move {r : Resp} (hb : s.phase.isBusy = true) (hh : s.hs = .idle) (ht : s.todo = .resp r) :
    CoreMove s (respond r s) := by
  by_cases hfin : s.phase = .finSent
  · rw [respond_finSent hfin]
    exact .rests hh ht (.inr hfin)
  have hp : s.phase = .headerSent ∨ s.phase = .dataLoop ∨ s.phase = .eotSent := by
    cases h : s.phase <;> simp_all [Phase.isBusy]
  obtain ⟨hcancel, hother⟩ := respond_aborts hp
  cases r with
  | cancel =>
    rw [hcancel]
    exact .aborts hb (.inl rfl) (.inr (.inl ⟨rfl, hh, ht, hfin⟩))
  | other b =>
    rw [hother]
    exact .aborts hb (.inl rfl) (.inr (.inr (.inl ⟨rfl, hh, ⟨b, ht⟩, hfin⟩)))
  | ack =>
    rcases hp with hp | hp | hp <;> simp only [respond, hp]
    · rw [← hp]; exact .acksHdr hh ht hp
    · rw [← hp]; exact .acksData hh ht hp
    · rw [← hp]; exact .rests hh ht (.inl ⟨hp, rfl⟩)

/-- An internal operation (R203 to R212). -/
theorem runTodo_move (hb : s.phase.isBusy = true) (hh : s.hs = .idle) (hn : s.todo ≠ .none)
    (h : (runTodo s).out = .next t) : CoreMove s t := by
  have load {k : Kind} {src : List Byte} (hl : Loads s k src) (hlong : s.todo = .finEncode → src.length ≤ s.blockSize)
      (h : (if src.length ≤ s.blockSize then Flow.go { loaded src { s with kind := k } with todo := .pad }
        else .raise .framingError { s with kind := k }).out = .next t) : CoreMove s t := by
    split at h
    case isTrue hfit => cases h; exact .loads hh hl hfit
    case isFalse hlen =>
      cases h
      have hlt := Nat.not_le.mp hlen
      rcases hl with ⟨ht, rfl, rfl⟩ | ⟨ht, rfl⟩ | ⟨ht, -, -⟩
      · exact .aborts hb (.inl rfl) (.inl ⟨rfl, hh, .inl ⟨ht, hlt⟩⟩)
      · exact .aborts hb (.inr (.inl ⟨rfl, rfl⟩)) (.inl ⟨rfl, hh, .inr ⟨_, ht, hlt⟩⟩)
      · exact absurd (hlong ht) hlen
  rcases runTodo_cases s with ⟨ht, e⟩ | ⟨ht, e⟩ | ⟨ht, e⟩ | ⟨chunk, ht, e⟩ | ⟨ht, e⟩ | ⟨ht, e⟩ | ⟨ht, e⟩ | ⟨ht, e⟩ |
    ⟨r, ht, e⟩ <;> rw [e] at h
  · exact absurd ht hn
  · cases h; exact .beginsHdr hh ht
  · exact load (k := s.kind) (.inl ⟨ht, rfl, rfl⟩) (by simp [ht]) h
  · exact load (k := .data) (.inr (.inl ⟨ht, rfl⟩)) (by simp [ht]) h
  · cases h; exact .beginsEot hh ht
  · cases h
    exact .loads (k := s.kind) hh (.inr (.inr ⟨ht, rfl, rfl⟩)) (by
      show 3 ≤ s.blockSize
      rcases blockSize_cases s with hs | hs <;> omega)
  · cases h; exact .pads hh ht
  · cases hm : memRead s.pbuf 0 s.blockSize with
    | none => rw [hm] at h; cases h
    | some payload => rw [hm] at h; cases h; exact .builds hh ht hm
  · cases h; exact respond_move hb hh ht

/-- The file transactions (R203, R206). -/
theorem sizeProbe_move (hh : s.hs = .idle) (ht : s.todo = .none) (hp : s.phase = .headerSent)
    (h : (sizeProbe s).out = .next t) : CoreMove s t := by
  rcases sizeProbe_cases s with ⟨ha, e⟩ | ⟨ha, e⟩ | ⟨-, e⟩ | ⟨-, -, e⟩ | ⟨ha, hfit, e⟩ <;> rw [e] at h <;> cases h
  · exact .fails (by rw [hp]; rfl) (.inr (.inr (.inl ⟨hp, hh, ht, ha, rfl⟩))) (.inl ⟨hh, ht, hp, ha⟩)
  · exact .held (.inl ⟨hp, hh, ht, ha, rfl⟩)
  · exact .waits
  · exact .measures hh ht hp ha hfit

theorem dataRead_move (hh : s.hs = .idle) (ht : s.todo = .none) (hp : s.phase = .dataLoop)
    (h : (dataRead s).out = .next t) : CoreMove s t := by
  rcases dataRead_cases s with ⟨ha, e⟩ | ⟨ha, e⟩ | ⟨-, e⟩ | ⟨ha, e⟩ | ⟨chunk, hne, ha, e⟩ <;> rw [e] at h <;> cases h
  · exact .fails (by rw [hp]; rfl) (.inr (.inr (.inr (.inl ⟨hp, hh, ht, ha, rfl⟩)))) (.inr (.inl ⟨hh, ht, hp, ha⟩))
  · exact .held (.inr (.inl ⟨hp, hh, ht, ha, rfl⟩))
  · exact .waits
  · exact .readsNone hh ht hp ha
  · exact .readsChunk hh ht hp hne ha

/-- One turn of `SEND` (R171). -/
theorem sendByte_move (hb : s.phase.isBusy = true) (hh : s.hs = .tx) (h : sendByte s = .next t) : CoreMove s t := by
  rcases sendByte_next h with ⟨hlt, b, hpb, ⟨ha, rfl⟩ | ⟨ha, rfl⟩ | ⟨ha, rfl⟩ | ⟨-, rfl⟩⟩ | ⟨hlt, rfl⟩
  · exact .writes hh hlt hpb ha
  · exact .fails hb (.inr (.inr (.inr (.inr (.inl ⟨hh, ha, rfl⟩))))) (.inr (.inr (.inl ⟨hh, ha⟩)))
  · exact .held (.inr (.inr ⟨hh, ha, rfl⟩))
  · exact .waits
  · exact .written hh hlt

/-- A response byte (R92, R173). -/
theorem response_move {b : Byte} (hh : s.hs = .wait) (ha : s.rxAnswer = .byte b)
    (h : exec (decodeResponse b) s = .next t) : CoreMove s t := by
  rcases exec_decodeResponse b s with ⟨rfl, e⟩ | ⟨rfl, e⟩ | ⟨rfl, e⟩ | ⟨h1, h2, h3, e⟩ <;> rw [e] at h
  · obtain ⟨-, -, -, -, rfl⟩ := execRxAck_next.mp h
    split
    case isTrue hg => exact .probes hh ha hg
    case isFalse hg => exact .answers hh ha (.inl ⟨hh, ha, by simpa using hg⟩)
  · obtain ⟨-, -, -, -, rfl⟩ := execRxCa_next.mp h
    exact .cancels hh ha
  · obtain ⟨-, -, -, -, rfl⟩ := execRxNak_next.mp h
    split
    case isTrue hretry => exact .retries hh ha hretry.1 hretry.2
    case isFalse hlast =>
      refine .answers hh ha ⟨hh, ha, by decide, by decide, fun _ => ?_⟩
      by_cases hk : s.kind = .fin
      · exact .inl hk
      · exact .inr (Nat.not_lt.mp fun hlt => hlast ⟨hk, hlt⟩)
  · obtain ⟨-, -, -, -, rfl⟩ := execRxOther_next.mp h
    exact .answers hh ha ⟨hh, ha, h1, h2, fun e => absurd e h3⟩

/-- A step of the core that answers a next state is one of these moves. -/
theorem coreStep_move (hr : s.reservedCode = none) (h : coreStep s = .next t) : CoreMove s t := by
  cases hb : s.phase.isBusy with
  | false =>
    rw [coreStep_idle_phase hb] at h
    cases h
    exact .waits
  | true =>
    obtain ⟨-, hres, -⟩ := reservedCode_eq_none.mp hr
    cases hh : s.hs with
    | idle =>
      rcases coreStep_idle hb hh hr with ⟨ht, e⟩ | ⟨ht, hp, e⟩ | ⟨ht, hp, e⟩ | ⟨ht, hp, e⟩ | ⟨ht, hp, e⟩ <;>
        rw [e] at h
      · exact runTodo_move hb hh ht h
      · exact sizeProbe_move hh ht hp h
      · exact dataRead_move hh ht hp h
      · cases h; exact .beginsFin hh ht hp
      · cases h; exact .ends hh ht hp
    | tx =>
      rw [coreStep_tx hb hh hr] at h
      exact sendByte_move hb hh h
    | wait =>
      rcases coreStep_wait hb hh with ⟨b, ha, e⟩ | ⟨ha, e⟩ | ⟨ha, e⟩ | ⟨-, e⟩ <;> rw [e] at h
      · exact response_move hh ha h
      · cases h; exact (CoreMove.failsRead hb (.inl hh)).1 ha
      · cases h; exact (CoreMove.failsRead hb (.inl hh)).2 ha
      · cases h; exact .waits
    | ca2 =>
      rcases coreStep_ca2 hb hh with ⟨b, ha, e⟩ | ⟨ha, e⟩ | ⟨ha, e⟩ | ⟨-, e⟩ <;> rw [e] at h
      · obtain ⟨-, -, -, -, rfl⟩ := execRxCa2Any_next.mp h
        exact .cancelled hh ha
      · cases h; exact (CoreMove.failsRead hb (.inr hh)).1 ha
      · cases h; exact (CoreMove.failsRead hb (.inr hh)).2 ha
      · cases h; exact .waits
    | probe =>
      rcases coreStep_probe hb hh with ⟨o, ha, e⟩ | ⟨ha, e⟩ <;> rw [e] at h
      · obtain ⟨-, -, -, -, rfl⟩ := execRxExtraAny_next.mp h
        exact .probed hh ha
      · cases h
        exact .fails hb (.inr (.inr (.inr (.inr (.inr (.inr ⟨hh, ha, rfl⟩)))))) (.inr (.inr (.inr (.inr ⟨hh, ha⟩))))
    | reserved5 => rw [hh] at hres; cases hres
    | reserved6 => rw [hh] at hres; cases hres
    | reserved7 => rw [hh] at hres; cases hres

/-! ### What one step can do -/

/-- A step that answers a next state is a move of the core, the start of a session, a reset, or it changes the
environment alone. -/
theorem step_next (h : step s = .next t) :
    CoreMove s.moved t
    ∨ (s.env.sched.head? = some .hostStart ∧ s.reservedCode = none ∧ s.phase.isBusy = false
        ∧ t = sessionStart s.moved)
    ∨ (s.env.sched.head? = some .reset ∧ t = resetCore s.moved)
    ∨ ∃ e : Env, e.staleRxAdmitted = s.env.staleRxAdmitted ∧ t = { s with env := e } := by
  have hostMove (u : State) (hu : u = { s with env := u.env }) (hflag : u.env.staleRxAdmitted = s.env.staleRxAdmitted)
      (h : hostUses s u = .next t) :
      ∃ e : Env, e.staleRxAdmitted = s.env.staleRxAdmitted ∧ t = { s with env := e } := by
    unfold hostUses at h
    split at h <;> cases h
    exact ⟨_, hflag, hu⟩
  rcases step_cases s with ⟨hc, hr, e⟩ | ⟨-, f, -, e⟩ | ⟨hh, e⟩ | ⟨hh, e⟩ | ⟨b, -, e⟩ | ⟨n, d, -, e⟩ | ⟨-, e⟩ <;>
    rw [e] at h
  · rw [turn_eq] at h
    exact .inl (coreStep_move hr h)
  · cases h
  · obtain ⟨hr, -, ⟨-, rfl⟩ | ⟨hb, -, -, rfl⟩⟩ := execHostStart_next.mp h
    · exact .inr (.inr (.inr ⟨s.moved.env, rfl, rfl⟩))
    · exact .inr (.inl ⟨hh, hr, hb, rfl⟩)
  · cases h
    exact .inr (.inr (.inl ⟨hh, rfl⟩))
  · cases h
    exact .inr (.inr (.inr ⟨(receiverSends b s.moved).env, rfl, rfl⟩))
  · exact .inr (.inr (.inr (hostMove (handOver n d s.moved) rfl rfl h)))
  · exact .inr (.inr (.inr (hostMove (drainQueue s.moved) rfl rfl h)))

end Sys2Proof.Machine

namespace Sys2Proof.Machine

variable {i : Instr} {s t u : State}

/-! ### One step of a transmitted form -/

theorem unitStep_tx {first : State → Flow} (hh : s.hs = .tx) : unitStep first s = sendByte s := by
  simp [unitStep, hh]

theorem unitStep_first {first : State → Flow} (hh : s.hs = .idle) (ht : s.todo = .none) :
    unitStep first s = (first s).out := by
  simp [unitStep, hh, ht]

theorem unitStep_todo {first : State → Flow} (hh : s.hs = .idle) (ht : s.todo ≠ .none) :
    unitStep first s = (runTodo s).out := by
  simp [unitStep, hh, ht]

/-- The internal operations that build a packet (R204, R207, R211). -/
def Todo.builds : Todo → Bool
  | .hdrSend => true
  | .hdrEncode => true
  | .dataSend _ => true
  | .finEncode => true
  | .pad => true
  | .buildPacket => true
  | .none => false
  | .eotSend => false
  | .resp _ => false

/-- The forms that are packets; the `EOT` is none (R80). -/
abbrev PacketForm (i : Instr) (p : Phase) : Prop := sendPhase i = some p ∧ i ≠ .eot

theorem packetForm_hdr : PacketForm .pkt128Hdr .headerSent := ⟨rfl, nofun⟩
theorem packetForm_data : PacketForm .pkt1024Data .dataLoop := ⟨rfl, nofun⟩
theorem packetForm_fin : PacketForm .pkt128Fin .finSent := ⟨rfl, nofun⟩

/-- While its packet is built, a form's step is the internal operation that is next. -/
theorem exec_builds {p : Phase} (hi : PacketForm i p) (hs : At s p .idle) (ht : s.todo.builds = true) :
    exec i s = (runTodo s).out := by
  obtain ⟨hp, hne⟩ := hi
  have hr := reservedCode_of_busyAt (busyAt_of_at hs (sendPhase_busy hp)) rfl
  obtain ⟨hphase, hh, -⟩ := hs
  have hnone : s.todo ≠ .none := fun e => by rw [e] at ht; cases ht
  have hresp : ¬ AnswerPending s := fun ⟨r, e⟩ => by rw [e] at ht; cases ht
  have heot : ¬ EotNext s := by
    rintro (e | ⟨e, -⟩)
    · rw [e] at ht; cases ht
    · exact hnone e
  cases i <;> cases hp
  case pkt128Hdr =>
    exact (exec_of_enabled (i := .pkt128Hdr) hr ⟨hphase, .inr ⟨hh, hresp⟩⟩).trans (unitStep_todo hh hnone)
  case pkt1024Data =>
    exact (exec_of_enabled (i := .pkt1024Data) hr ⟨hphase, .inr ⟨hh, hresp, heot⟩⟩).trans (unitStep_todo hh hnone)
  case eot => exact absurd rfl hne
  case pkt128Fin =>
    exact (exec_of_enabled (i := .pkt128Fin) hr (.inr ⟨hphase, .inr ⟨hh, hresp, hnone⟩⟩)).trans
      (unitStep_todo (first := fun u => .go (finSend u)) hh hnone)

/-- Three internal operations load, pad and build a payload that fits its block (R143, R144, R148). -/
theorem execs_load_pad_build {p : Phase} {src : List Byte} (hi : PacketForm i p) (hs : At s p .idle)
    (ht : s.todo.builds = true) (hu : At u p .idle) (hload : runTodo s = .go { loaded src u with todo := .pad })
    (hfit : src.length ≤ u.blockSize) : execs 3 i s = .next (unitOf src u) := by
  have load : exec i s = .next { loaded src u with todo := .pad } := by
    rw [exec_builds hi hs ht, hload, out_go]
  have padding : exec i { loaded src u with todo := .pad }
      = .next { pad { loaded src u with todo := .pad } with todo := .buildPacket } :=
    exec_builds hi (s := { loaded src u with todo := .pad }) hu rfl
  have build : exec i { pad { loaded src u with todo := .pad } with todo := .buildPacket } = .next (unitOf src u) := by
    rw [exec_builds hi (s := { pad { loaded src u with todo := .pad } with todo := .buildPacket }) hu rfl]
    exact congrArg Flow.out (load_pad_build hfit .pad .buildPacket)
  rw [execs_succ load, execs_succ padding, execs_succ build, execs_zero]

theorem runTodo_hdrEncode (ht : s.todo = .hdrEncode)
    (hfit : (headerFields s.params.logicalName s.fsize).length ≤ s.blockSize) :
    runTodo s = .go { loaded (headerFields s.params.logicalName s.fsize) s with todo := .pad } := by
  simp [runTodo, ht, hdrEncode, loadPayload_eq, hfit]

theorem runTodo_hdrEncode_tooLong (ht : s.todo = .hdrEncode)
    (hlong : s.blockSize < (headerFields s.params.logicalName s.fsize).length) :
    runTodo s = .raise .framingError s := by
  simp [runTodo, ht, hdrEncode, loadPayload, hlong, Flow.thenTodo]

theorem runTodo_dataSend {chunk : List Byte} (ht : s.todo = .dataSend chunk) (hfit : chunk.length ≤ s.blockSize) :
    runTodo s = .go { loaded chunk { s with kind := .data } with todo := .pad } := by
  unfold runTodo
  simp only [ht, dataSend_eq, hfit, if_true]

theorem runTodo_dataSend_tooLong {chunk : List Byte} (ht : s.todo = .dataSend chunk)
    (hlong : s.blockSize < chunk.length) : runTodo s = .raise .framingError { s with kind := .data } := by
  unfold runTodo
  simp only [ht, dataSend_eq, Nat.not_le.mpr hlong, if_false]

theorem headerFields_empty : headerFields [] 0 = [0x00#8, 0x30#8, 0x20#8] := rfl

theorem runTodo_finEncode (ht : s.todo = .finEncode) (hfit : 3 ≤ s.blockSize) :
    runTodo s = .go { loaded (headerFields [] 0) s with todo := .pad } := by
  simp [runTodo, ht, finEncode, loadPayload_eq, headerFields_empty, hfit]

/-! ### The first step of a transmitted form -/

theorem reservedCode_of_between {p : Phase} {d : Todo} (hs : Between s p d) (hp : p.isBusy = true) :
    s.reservedCode = none :=
  reservedCode_of_busyAt (busyAt_of_at hs.1 hp) rfl

theorem not_answerPending_of_none (ht : s.todo = .none) : ¬ AnswerPending s := fun ⟨r, e⟩ => by
  rw [ht] at e; cases e

/-- The first step of `PKT128_HDR` is `SIZE_PROBE` (R203). -/
theorem exec_pkt128Hdr_first (hs : Between s .headerSent .none) : exec .pkt128Hdr s = (sizeProbe s).out := by
  have hr := reservedCode_of_between hs rfl
  obtain ⟨⟨hp, hh, -⟩, ht⟩ := hs
  exact (exec_of_enabled (i := .pkt128Hdr) hr ⟨hp, .inr ⟨hh, not_answerPending_of_none ht⟩⟩).trans
    (unitStep_first hh ht)

/-- The first step of `PKT1024_DATA` is a `DATA_READ` that does not find the end of the file (R206). -/
theorem exec_pkt1024Data_first (hs : Between s .dataLoop .none) (ha : s.readAnswer ≠ .chunk []) :
    exec .pkt1024Data s = (dataRead s).out := by
  have hr := reservedCode_of_between hs rfl
  obtain ⟨⟨hp, hh, -⟩, ht⟩ := hs
  have heot : ¬ EotNext s := by
    rintro (e | ⟨-, e⟩)
    · rw [ht] at e; cases e
    · exact ha e
  exact (exec_of_enabled (i := .pkt1024Data) hr ⟨hp, .inr ⟨hh, not_answerPending_of_none ht, heot⟩⟩).trans
    (unitStep_first hh ht)

/-- The first step of `EOT` is the `DATA_READ` that finds the end of the file (R206). -/
theorem exec_eot_first (hs : Between s .dataLoop .none) (ha : s.readAnswer = .chunk []) :
    exec .eot s = .next { s with todo := .eotSend, env := s.env.afterFileRead 0 } := by
  have hr := reservedCode_of_between hs rfl
  obtain ⟨⟨hp, hh, -⟩, ht⟩ := hs
  refine (exec_of_enabled (i := .eot) hr (.inl ⟨hp, hh, .inr ⟨ht, ha⟩⟩)).trans ((unitStep_first hh ht).trans ?_)
  simp only [dataRead, ha]
  rfl

/-- `EOT_SEND` (R209). -/
theorem exec_eot_eotSend (hs : Between s .dataLoop .eotSend) : exec .eot s = .next (eotSend s) := by
  have hr := reservedCode_of_between hs rfl
  obtain ⟨⟨hp, hh, -⟩, ht⟩ := hs
  refine (exec_of_enabled (i := .eot) hr (.inl ⟨hp, hh, .inl ht⟩)).trans ((unitStep_todo hh (by simp [ht])).trans ?_)
  simp [runTodo, ht]

/-- The first step of `PKT128_FIN` is `FIN_SEND`'s own (R211). -/
theorem exec_pkt128Fin_first (hs : Between s .eotSent .none) : exec .pkt128Fin s = .next (finSend s) := by
  have hr := reservedCode_of_between hs rfl
  obtain ⟨⟨hp, hh, -⟩, ht⟩ := hs
  exact (exec_of_enabled (i := .pkt128Fin) hr (.inl ⟨hp, hh, not_answerPending_of_none ht⟩)).trans
    (unitStep_first (first := fun u => .go (finSend u)) hh ht)

theorem sizeProbe_answer (ha : s.sizeAnswer = .answer) (hfit : s.env.file.size < 2 ^ s.params.sizeBits) :
    sizeProbe s = .go { s with
      fsize := s.env.file.size, todo := .hdrSend, env := { s.env with sizeDraws := s.env.sizeDraws.tail } } := by
  simp only [sizeProbe, ha, hfit, if_true]
  rfl

theorem dataRead_chunk {chunk : List Byte} (ha : s.readAnswer = .chunk chunk) (hne : chunk ≠ []) :
    dataRead s = .go { s with todo := .dataSend chunk, env := s.env.afterFileRead chunk.length } := by
  simp only [dataRead, ha, hne, if_false]
  rfl

/-! ### A packet from its first step to its first byte -/

/-- The state in which `HDR_ENCODE` is next after `FileSize` was answered (R203, R204). -/
def measured (s : State) : State :=
  hdrSend { s with fsize := s.env.file.size, env := { s.env with sizeDraws := s.env.sizeDraws.tail } }

/-- `SIZE_PROBE` and `HDR_SEND`'s own assignments are the first two steps of `PKT128_HDR`. -/
theorem execs_pkt128Hdr_measured (n : Nat) (hs : Between s .headerSent .none) (ha : s.sizeAnswer = .answer)
    (hfit : s.env.file.size < 2 ^ s.params.sizeBits) :
    execs (n + 2) .pkt128Hdr s = execs n .pkt128Hdr (measured s) := by
  have probe := exec_pkt128Hdr_first hs
  rw [sizeProbe_answer ha hfit, out_go] at probe
  rw [execs_succ probe]
  exact execs_succ (exec_builds packetForm_hdr hs.1 rfl)

theorem execs_pkt128Hdr_built (hs : Between s .headerSent .none) (ha : s.sizeAnswer = .answer)
    (hfit : s.env.file.size < 2 ^ s.params.sizeBits)
    (hlen : (headerFields s.params.logicalName s.env.file.size).length ≤ 128) :
    execs 5 .pkt128Hdr s
      = .next (unitOf (headerFields s.params.logicalName s.env.file.size) (measured s)) := by
  rw [execs_pkt128Hdr_measured 3 hs ha hfit]
  exact execs_load_pad_build packetForm_hdr (s := measured s) hs.1 rfl hs.1
    (runTodo_hdrEncode (s := measured s) rfl hlen) hlen

/-- The state in which `LOAD_PAYLOAD` of `DATA_SEND(chunk)` is next after `FileRead` returned `chunk` (R206). -/
def chunkRead (chunk : List Byte) (s : State) : State :=
  { s with todo := .dataSend chunk, env := s.env.afterFileRead chunk.length }

theorem exec_pkt1024Data_chunk {chunk : List Byte} (hs : Between s .dataLoop .none)
    (ha : s.readAnswer = .chunk chunk) (hne : chunk ≠ []) :
    exec .pkt1024Data s = .next (chunkRead chunk s) := by
  rw [exec_pkt1024Data_first hs (by rw [ha]; simpa using hne), dataRead_chunk ha hne, out_go]
  rfl

theorem execs_pkt1024Data_built {chunk : List Byte} (hs : Between s .dataLoop .none)
    (ha : s.readAnswer = .chunk chunk) (hne : chunk ≠ []) (hlen : chunk.length ≤ s.blockSize) :
    execs 4 .pkt1024Data s = .next (unitOf chunk { chunkRead chunk s with kind := .data }) := by
  rw [execs_succ (exec_pkt1024Data_chunk hs ha hne)]
  exact execs_load_pad_build packetForm_data (s := chunkRead chunk s) hs.1 rfl hs.1
    (runTodo_dataSend (s := chunkRead chunk s) rfl hlen) hlen

theorem execs_eot_built (hs : Between s .dataLoop .none) (ha : s.readAnswer = .chunk []) :
    execs 2 .eot s = .next (eotSend { s with todo := .eotSend, env := s.env.afterFileRead 0 }) := by
  rw [execs_succ (exec_eot_first hs ha)]
  exact execs_succ (exec_eot_eotSend ⟨hs.1, rfl⟩)

theorem execs_pkt128Fin_built (hs : Between s .eotSent .none) :
    execs 4 .pkt128Fin s = .next (unitOf (headerFields [] 0) (finSend s)) := by
  have hat : At (finSend s) .finSent .idle := ⟨rfl, hs.1.2⟩
  have hlen : (headerFields [] 0).length ≤ (finSend s).blockSize := by
    rw [headerFields_empty, blockSize_of_bsel_false rfl]
    decide
  rw [execs_succ (exec_pkt128Fin_first hs)]
  exact execs_load_pad_build packetForm_fin (s := finSend s) hat rfl hat
    (runTodo_finEncode (s := finSend s) rfl hlen) hlen

end Sys2Proof.Machine

namespace Sys2Proof

open Machine

/-- Settles O19: `FileSize`, `HDR_SEND`, then loading, padding and building the header fields. -/
theorem headerBuildCompletes : Obligations.HeaderBuildCompletes := by
  intro s fields payload hs ha hfit
  refine ⟨?_, fun hlen => ⟨_, execs_pkt128Hdr_built hs ha hfit hlen, ?_, fun a => ?_⟩⟩
  · rw [exec_pkt128Hdr_first hs, sizeProbe_answer ha hfit, out_go]
  · obtain ⟨-, ht⟩ := hs
    simp only [unitOf]
    rw [← ht]
    rfl
  · exact unitOf_memByte (s := measured s) hlen a

/-- Settles O20: `FileRead`, then loading, padding and building the chunk. -/
theorem dataBuildCompletes : Obligations.DataBuildCompletes := by
  intro s chunk payload hs ha hne
  refine ⟨exec_pkt1024Data_chunk hs ha hne, fun hb hlen => ?_⟩
  have hbs : s.blockSize = 1024 := blockSize_of_bsel_true hb
  refine ⟨_, execs_pkt1024Data_built hs ha hne (hbs ▸ hlen), ?_, fun a => ?_⟩
  · obtain ⟨-, ht⟩ := hs
    have hsame : ({ chunkRead chunk s with kind := .data } : State).blockSize = 1024 := hbs
    simp only [unitOf, hsame, padded]
    rw [← ht]
    rfl
  · have := unitOf_memByte (s := { chunkRead chunk s with kind := .data }) (src := chunk) (hbs ▸ hlen) a
    rw [show ({ chunkRead chunk s with kind := .data } : State).blockSize = 1024 from hbs] at this
    exact this

/-- Settles O21: `FileRead` of 0 bytes, then `EOT_SEND`. -/
theorem eotBuildCompletes : Obligations.EotBuildCompletes := by
  intro s hs ha
  refine ⟨(readAnswer_chunk ha).2 rfl, exec_eot_first hs ha, ?_⟩
  rw [execs_eot_built hs ha]
  obtain ⟨-, ht⟩ := hs
  simp only [eotSend]
  rw [← ht]
  rfl

/-- Settles O22: `FIN_SEND`, then loading, padding and building the three bytes of an empty header. -/
theorem finBuildCompletes : Obligations.FinBuildCompletes := by
  intro s payload hs
  refine ⟨exec_pkt128Fin_first hs, _, execs_pkt128Fin_built hs, ?_, fun a => ?_⟩
  · obtain ⟨-, ht⟩ := hs
    simp only [unitOf]
    rw [← ht]
    rfl
  · exact unitOf_memByte (s := finSend s) (src := headerFields [] 0) (Nat.le_of_ble_eq_true rfl) a

end Sys2Proof

namespace Sys2Proof.Machine

variable {i : Instr} {p : Phase} {s t : State}

/-! ### A byte of a unit, and the end of a session -/

/-- While a unit is on its way, a step of its form is one turn of `SEND` (R171). -/
theorem exec_tx (hi : sendPhase i = some p) (hs : At s p .tx) : exec i s = sendByte s := by
  have hr := reservedCode_of_busyAt (busyAt_of_at hs (sendPhase_busy hi)) rfl
  obtain ⟨hp, hh, -⟩ := hs
  cases i <;> cases hi
  case pkt128Hdr => exact (exec_of_enabled (i := .pkt128Hdr) hr ⟨hp, .inl hh⟩).trans (unitStep_tx hh)
  case pkt1024Data => exact (exec_of_enabled (i := .pkt1024Data) hr ⟨hp, .inl hh⟩).trans (unitStep_tx hh)
  case eot => exact (exec_of_enabled (i := .eot) hr (.inr ⟨hp, hh⟩)).trans (unitStep_tx hh)
  case pkt128Fin =>
    exact (exec_of_enabled (i := .pkt128Fin) hr (.inr ⟨hp, .inl hh⟩)).trans
      (unitStep_tx (first := fun u => .go (finSend u)) hh)

/-- `raise Abort(st)` where the file is not closed yet (R242). -/
theorem raiseAbort_of_open {st : Status} (h : s.fclosed = false) :
    raiseAbort st s = { s with
      hs := .idle, todo := .none, fclosed := true, status := st, phase := .aborted, env := s.env.fileClosed } := by
  simp only [raiseAbort, State.closeFile, h, Bool.false_eq_true, if_false]
  rfl

end Sys2Proof.Machine

namespace Sys2Proof

open Machine

/-- Settles O24: each of the three transactions that fails raises the abort in its own step. -/
theorem transactionErrorAborts : Obligations.TransactionErrorAborts := by
  refine ⟨fun i p s b hi hs hlt hb ha hf => ?write, fun s hs ha hf => ?size, fun s hs ha hf => ?read⟩
  case write =>
    simp only [exec_tx hi hs, sendByte, hlt, if_true, hb, ha]
    rw [raiseAbort_of_open (s := s.txAnswered) hf]
    rfl
  case size =>
    simp only [exec_pkt128Hdr_first hs, sizeProbe, ha, out_raise]
    rw [raiseAbort_of_open (s := s.sizeAnswered) hf]
    obtain ⟨⟨-, hh, -⟩, ht⟩ := hs
    rw [← hh, ← ht]
    rfl
  case read =>
    simp only [exec_pkt1024Data_first hs (by simp [ha]), dataRead, ha, out_raise]
    rw [raiseAbort_of_open (s := s.readFailed) hf]
    obtain ⟨⟨-, hh, -⟩, ht⟩ := hs
    rw [← hh, ← ht]
    rfl

/-- Settles O25: `LOAD_PAYLOAD` checks the length before it writes anything. -/
theorem tooLongAborts : Obligations.TooLongAborts := by
  refine ⟨fun s hs ha hfit hlong hf => ?header, fun s chunk hs hb ha hlong hf => ?chunk⟩
  case header =>
    have raised : exec .pkt128Hdr (measured s) = .next (raiseAbort .framingError (measured s)) := by
      have hlong' : (measured s).blockSize < (headerFields s.params.logicalName s.env.file.size).length := by
        rw [headerFields_length]
        exact hlong
      rw [exec_builds packetForm_hdr (s := measured s) hs.1 rfl,
        runTodo_hdrEncode_tooLong (s := measured s) rfl hlong', out_raise]
    rw [execs_pkt128Hdr_measured 1 hs ha hfit, execs_succ raised, execs_zero,
      raiseAbort_of_open (s := measured s) hf]
    obtain ⟨⟨-, hh, -⟩, ht⟩ := hs
    rw [← hh, ← ht]
    rfl
  case chunk =>
    have hne : chunk ≠ [] := by
      rintro rfl
      simp at hlong
    have hbs : s.blockSize = 1024 := blockSize_of_bsel_true hb
    have raised : exec .pkt1024Data (chunkRead chunk s)
        = .next (raiseAbort .framingError { chunkRead chunk s with kind := .data }) := by
      rw [exec_builds packetForm_data (s := chunkRead chunk s) hs.1 rfl,
        runTodo_dataSend_tooLong (s := chunkRead chunk s) rfl (hbs ▸ hlong), out_raise]
    rw [execs_succ (exec_pkt1024Data_chunk hs ha hne), execs_succ raised, execs_zero,
      raiseAbort_of_open (s := { chunkRead chunk s with kind := .data }) hf]
    obtain ⟨⟨-, hh, -⟩, ht⟩ := hs
    rw [← hh, ← ht]
    rfl

/-- Settles O26: a transaction that is held back uses up its draw at most. -/
theorem heldTransactionsWait : Obligations.HeldTransactionsWait := by
  refine ⟨fun s hs => ?size, fun s hs => ?read, fun i p s b hi hs hlt hb => ?write⟩
  case size =>
    rw [exec_pkt128Hdr_first hs]
    exact ⟨fun ha => by simp only [sizeProbe, ha]; rfl, fun ha => by simp only [sizeProbe, ha]; rfl⟩
  case read =>
    refine ⟨fun ha => ?_, fun ha => ?_⟩ <;> rw [exec_pkt1024Data_first hs (by simp [ha])] <;>
      simp only [dataRead, ha] <;> rfl
  case write =>
    rw [exec_tx hi hs]
    simp only [sendByte, hlt, if_true, hb]
    exact ⟨fun ha => by rw [ha]; rfl, fun ha => by rw [ha]⟩

end Sys2Proof

namespace Sys2Proof.Machine

variable {p : Phase} {r : Resp} {s t : State}

/-! ### The core's step in a session -/

/-- With a response pending the core's step is the sequencer's operation on it (R205, R208, R210, R212). -/
theorem step_resp (hc : CoreTurn s) (hs : Between s p (.resp r)) (hp : p.isBusy = true) :
    step s = .next (respond r s.moved) := by
  have hr := reservedCode_of_between hs hp
  obtain ⟨⟨rfl, hh, -⟩, ht⟩ := hs
  rw [step_eq_coreStep hc hr, coreStep, coreFetch_idle (s := s.moved) hp hh]
  simp [fetchIdle, Todo.isResp, runTodo, ht]

/-- Where the closing header was answered and nothing is pending, the core's step ends the session (R212, R216). -/
theorem step_sessionEnd (hc : CoreTurn s) (hs : Between s .finSent .none) :
    step s = .next (finish .success s.moved) := by
  have hr := reservedCode_of_between hs rfl
  obtain ⟨⟨hp, hh, -⟩, ht⟩ := hs
  have hb : s.moved.phase.isBusy = true := by simp [hp, Phase.isBusy]
  rw [step_eq_coreStep hc hr, coreStep, coreFetch_idle hb hh]
  simp [fetchIdle, hp, ht, isResp_none, sessionEnd]

/-- A blocking read that fails or times out aborts (R172, R178, R246, R247, R250). -/
theorem step_readAborts {h : Hs} {st : Status} (hc : CoreTurn s) (hs : BusyAt s h) (hh : h = .wait ∨ h = .ca2)
    (ha : (s.rxAnswer = .err ∧ st = .channelOrFileError) ∨ (s.rxAnswer = .timeout ∧ st = .timeout)) :
    step s = .next (raiseAbort st s.moved.rxFailed) := by
  have hr := reservedCode_of_busyAt hs (by rcases hh with rfl | rfl <;> rfl)
  have fails (p : ReadPoint) : fetchRead p s.moved = .own (readAborts st s.moved.rxFailed) := by
    have hmoved : s.moved.rxAnswer = s.rxAnswer := rfl
    rcases ha with ⟨ha, rfl⟩ | ⟨ha, rfl⟩ <;> rw [fetchRead, hmoved, ha]
  obtain ⟨hb, rfl, -⟩ := hs
  rw [step_eq_coreStep hc hr, coreStep]
  rcases hh with hh | hh
  · rw [coreFetch_wait (s := s.moved) hb hh, fails]; rfl
  · rw [coreFetch_ca2 (s := s.moved) hb hh, fails]; rfl

/-- A poll that fails aborts (R176, R246). -/
theorem step_poll_err (hc : CoreTurn s) (hs : BusyAt s .probe) (ha : s.pollAnswer = .err) :
    step s = .next (raiseAbort .channelOrFileError s.moved.pollFailed) := by
  have hr := reservedCode_of_busyAt hs rfl
  have ha' : s.moved.pollAnswer = .err := ha
  obtain ⟨hb, hh, -⟩ := hs
  rw [step_eq_coreStep hc hr, coreStep, coreFetch_probe (s := s.moved) hb hh, fetchPoll, ha']
  rfl

/-- Where `HANDSHAKE` returned a response that aborts, the core's step is that abort. -/
theorem step_resp_aborts {st : Status} (hc : CoreTurn s) (hs : Between s p (.resp r)) (hp : p.isBusy = true)
    (ha : respond r s.moved = raiseAbort st s.moved) (hf : s.fclosed = false) :
    step s = .next { s with
      todo := .none, fclosed := true, status := st, phase := .aborted, env := s.env.moveMade.fileClosed } := by
  rw [step_resp hc hs hp, ha, raiseAbort_of_open (s := s.moved) hf]
  obtain ⟨⟨-, hh, -⟩, -⟩ := hs
  rw [← hh]
  rfl

/-- Any response to the closing header leaves the end of the session next (R212). -/
theorem step_resp_finSent (hc : CoreTurn s) (hs : Between s .finSent (.resp r)) :
    step s = .next { s with todo := .none, env := s.env.moveMade } := by
  rw [step_resp hc hs rfl, respond_finSent (s := s.moved) hs.1.1]
  rfl

/-- The phases in which a response that is no `Ack` aborts. -/
theorem busy_of_send_phase (hp : p = .headerSent ∨ p = .dataLoop ∨ p = .eotSent) : p.isBusy = true := by
  rcases hp with rfl | rfl | rfl <;> rfl

/-- An instruction of the receive direction, at its control point. -/
theorem exec_of_busyAt {i : Instr} {h : Hs} (hs : BusyAt s h) (hh : h.isReserved = false) (he : Enabled i s) :
    exec i s = meaning i s := exec_of_enabled (reservedCode_of_busyAt hs hh) he

end Sys2Proof.Machine

namespace Sys2Proof

open Machine

/-- Settles O29: the gate is closed, so the `Ack` goes to the sequencer; its operation differs by phase. -/
theorem ackGateClosedCompletes : Obligations.AckGateClosedCompletes := by
  refine ⟨fun s hs ha hg => ?read, fun s hc => ⟨fun hs => ?header, fun hs => ?data, fun p hp hs => ?last⟩,
    fun s hc hs hf => ?ending⟩
  case read =>
    rw [exec_of_busyAt (i := .rxAck) hs rfl ⟨hs.1, hs.2.1, ha⟩]
    simp only [meaning, hg, Bool.false_eq_true, if_false]
    rfl
  case header =>
    rw [step_resp hc hs rfl]
    simp only [respond, moved_phase, hs.1.1]
    rfl
  case data =>
    rw [step_resp hc hs rfl]
    simp only [respond, moved_phase, hs.1.1]
    rfl
  case last =>
    rcases hp with rfl | rfl
    · rw [step_resp hc hs rfl]
      simp only [respond, moved_phase, hs.1.1]
      rfl
    · exact step_resp_finSent hc hs
  case ending =>
    rw [step_sessionEnd hc hs]
    obtain ⟨⟨-, hh, -⟩, -⟩ := hs
    simp only [finish, State.closeFile, moved_fclosed, hf, Bool.false_eq_true, if_false]
    rw [← hh]
    rfl

/-- Settles O30: whatever the poll returned is dropped, and the `Ack` goes to the sequencer. -/
theorem extraByteCompletes : Obligations.ExtraByteCompletes := by
  intro s o hs ha
  rw [exec_of_busyAt (i := .rxExtraAny o) hs rfl ⟨hs.1, hs.2.1, ha⟩]
  cases o <;> rfl

/-- Settles O32: the byte is dropped; the operation on the `Cancel` aborts before the closing header only. -/
theorem cancelSecondByteCompletes : Obligations.CancelSecondByteCompletes := by
  refine ⟨fun s b hs ha => ?read, fun s hc => ⟨fun p hp hs hf => ?abort, step_resp_finSent hc⟩⟩
  case read =>
    rw [exec_of_busyAt (i := .rxCa2Any b) hs rfl ⟨hs.1, hs.2.1, ha⟩]
    rfl
  case abort =>
    exact step_resp_aborts hc hs (busy_of_send_phase hp) (respond_aborts (s := s.moved) (hs.1.1.symm ▸ hp)).1 hf

/-- Settles O34: with no retry left, or after the closing header, the `NAK` goes to the sequencer. -/
theorem nakFinalCompletes : Obligations.NakFinalCompletes := by
  intro s hs ha hlast
  have hno : ¬ (s.kind ≠ .fin ∧ s.retry < s.params.maxRetries) := by
    rintro ⟨hk, hlt⟩
    exact hlast.elim hk (Nat.not_le.mpr hlt)
  rw [exec_of_busyAt (i := .rxNak) hs rfl ⟨hs.1, hs.2.1, ha⟩]
  simp only [meaning, hno, if_false]
  rfl

/-- Settles O35: the byte goes to the sequencer, whose operation on it aborts before the closing header only. -/
theorem otherResponseCompletes : Obligations.OtherResponseCompletes := by
  refine ⟨fun s b _ hs ha => ?read, fun s b hc => ⟨fun p hp hs hf => ?abort, step_resp_finSent hc⟩⟩
  case read =>
    rw [exec_of_busyAt (i := .rxOther b) hs rfl ⟨hs.1, hs.2.1, ha⟩]
    rfl
  case abort =>
    exact step_resp_aborts hc hs (busy_of_send_phase hp) ((respond_aborts (s := s.moved) (hs.1.1.symm ▸ hp)).2 b) hf

/-- Settles O36: the failed read raises the abort in its own step; only its draw is used up. -/
theorem failedReadAborts : Obligations.FailedReadAborts := by
  refine ⟨fun s hc hf => ⟨fun h hh hs ha => ?err, fun h hh hs ha => ?timeout, fun hs ha => ?poll⟩,
    fun s => timeoutEnabled_of_rxAnswer⟩
  case err =>
    rw [step_readAborts hc hs hh (.inl ⟨ha, rfl⟩), raiseAbort_of_open (s := s.moved.rxFailed) hf]
    rfl
  case timeout =>
    rw [step_readAborts hc hs hh (.inr ⟨ha, rfl⟩), raiseAbort_of_open (s := s.moved.rxFailed) hf]
    rfl
  case poll =>
    rw [step_poll_err hc hs ha, raiseAbort_of_open (s := s.moved.pollFailed) hf]
    rfl

/-- Settles O40: the receiver, the hand-over and the drain write the environment alone. -/
theorem environmentMoves : Obligations.EnvironmentMoves := by
  refine ⟨fun s b h => ?receiver, fun s n d h => ?handOver, fun s h => ?drain⟩ <;>
    obtain ⟨rest, hs⟩ := List.head?_eq_some_iff.mp h
  case receiver =>
    simp only [step, fetch, hs]
    rfl
  case handOver =>
    have hstep : step s = hostUses s (handOver n d s.moved) := by simp only [step, fetch, hs]
    refine ⟨fun hb => ?_, fun hb hn => ⟨handOver n d s.moved, ?_, ⟨rfl, rfl, rfl, ?_⟩, rfl, rfl, rfl⟩⟩
    · simp [hstep, hostUses, State.busy, hb]
    · simp [hstep, hostUses, State.busy, hb]
    · simp [State.fileAtZero, hn]
  case drain =>
    have hstep : step s = hostUses s (drainQueue s.moved) := by simp only [step, fetch, hs]
    refine ⟨fun hb => ?_, fun hb => ?_⟩ <;> simp only [hstep, hostUses, State.busy, hb] <;> rfl

end Sys2Proof

namespace Sys2Proof.Machine

variable {i : Instr} {p : Phase} {s t : State} {f : WireFields}

/-! ### The unit that was built, as bytes -/

/-- A unit just built is the packet of its padded payload (R81, R84, R97). -/
theorem unitOf_unitBytes {src : List Byte} (hk : s.kind ≠ .eot) (h : src.length ≤ s.blockSize) :
    (unitOf src s).unitBytes
      = some (encodePacket s.mark ⟨s.seq, padded s.params.padByte s.blockSize src⟩) := by
  have hkind : (unitOf src s).kind ≠ .eot := hk
  rw [State.unitBytes, if_neg hkind, unitOf_blockSize, unitOf_memRead h]
  rfl

theorem encodePacket_length_of {mark : Byte} {n : Nat} (h : f.payload.length = n) :
    (encodePacket mark f).length = n + 5 := by
  rw [Laws.RowMatch.encodePacket_length, h]

/-- The length of a unit just built is `PKTLEN` (R148). -/
theorem unitOf_pktlen (src : List Byte) (s : State) : (unitOf src s).pktlen.toNat = s.blockSize + 5 := by
  have := blockSize_le s
  simp only [unitOf, BitVec.toNat_ofNat]
  omega

/-- A packet is identified by its mark and by the first byte of its payload (R85, R91). -/
theorem decodeTransmit_encodePacket {mark b : Byte} {seq : Byte} {payload : List Byte}
    (hm : unitLength mark = some ((b :: payload).length + 5)) :
    decodeTransmit (encodePacket mark ⟨seq, b :: payload⟩) = transmittedForm mark b := by
  simp [encodePacket, packetBytes, seqEncode, crcField, decodeTransmit, hm]

/-- The bytes of a transmitted form with well-formed fields decode to it (R85, R91). -/
theorem decode_transmit_encode (hi : i.readPoint = .transmit) (hf : f.wellFormed i = true) :
    decode .transmit (encode f i) = .ok i := by
  obtain ⟨seq, payload⟩ := f
  cases i <;> cases hi
  case eot => rfl
  case pkt128Hdr =>
    simp only [WireFields.wellFormed, Bool.and_eq_true, beq_iff_eq, bne_iff_ne] at hf
    obtain ⟨⟨-, hl⟩, hhead⟩ := hf
    cases payload with
    | nil => cases hl
    | cons b payload =>
      have hb : b ≠ 0#8 := fun e => hhead (by rw [e]; rfl)
      refine (decodeTransmit_encodePacket (mark := Config.soh) (by rw [hl]; rfl)).trans ?_
      simp [transmittedForm, hb, Config.soh, Config.eot, Config.stx]
  case pkt1024Data =>
    simp only [WireFields.wellFormed, beq_iff_eq] at hf
    cases payload with
    | nil => cases hf
    | cons b payload => exact decodeTransmit_encodePacket (mark := Config.stx) (by rw [hf]; rfl)
  case pkt128Fin =>
    simp only [WireFields.wellFormed, Bool.and_eq_true, beq_iff_eq] at hf
    obtain ⟨⟨-, hl⟩, hhead⟩ := hf
    cases payload with
    | nil => cases hl
    | cons b payload =>
      obtain rfl : b = 0#8 := by simpa using hhead
      exact decodeTransmit_encodePacket (mark := Config.soh) (by rw [hl]; rfl)

/-- The payload of an opening header with a well-formed name does not begin with NUL (R86, R91). -/
theorem headerFields_wellFormed {q : Params} {size : Nat} (hq : q.wellFormed = true) (hs : size < 2 ^ q.sizeBits) :
    WireFields.wellFormed ⟨0#8, padded q.padByte 128 (headerFields q.logicalName size)⟩ .pkt128Hdr = true := by
  have hlen := padded_length (padByte := q.padByte) (headerFields_fits hq hs)
  obtain ⟨hne, hnul, -, -⟩ := Params.wellFormed_iff.mp hq
  have hhead : (padded q.padByte 128 (headerFields q.logicalName size)).head? ≠ some 0#8 := by
    cases hn : q.logicalName with
    | nil => exact absurd hn hne
    | cons b name =>
      rintro h
      obtain rfl : b = 0#8 := by simpa [padded, headerFields] using h
      simp [hn] at hnul
  simp [WireFields.wellFormed, hlen, hhead, Config.bsHdr]

/-! ### How far a unit is from its first byte -/

/-- At least so many steps of the form `i` come before its unit's first byte can be written. -/
def stepsLeft (i : Instr) : Todo → Nat
  | .none => buildSteps i
  | .hdrSend => 4
  | .hdrEncode => 3
  | .dataSend _ => 3
  | .finEncode => 3
  | .pad => 2
  | .buildPacket => 1
  | .eotSend => 1
  | .resp _ => 0

theorem stepsLeft_le (hi : PacketForm i p) (d : Todo) : stepsLeft i d ≤ buildSteps i := by
  obtain ⟨hp, hne⟩ := hi
  cases i <;> cases hp <;> cases d <;> simp [stepsLeft, buildSteps] at hne ⊢

/-- At its control point with `HS` idle a form's step is the core's own (R29). -/
theorem exec_eq_coreStep (hi : sendPhase i ≠ none) (he : Enabled i s) (hh : s.hs = .idle) : exec i s = coreStep s := by
  have run (hb : s.phase.isBusy = true) (hf : fetchIdle s = .run i s) : exec i s = coreStep s := by
    rw [coreStep, coreFetch_idle hb hh, hf]
  have noTx : s.hs ≠ .tx := by rw [hh]; nofun
  cases i <;> simp only [sendPhase, ne_eq, not_true_eq_false, reduceCtorEq, not_false_eq_true] at hi
  case pkt128Hdr =>
    obtain ⟨hp, h | ⟨-, hn⟩⟩ := he
    · exact absurd h noTx
    · exact run (by rw [hp]; rfl) (fetchIdle_headerSent hp hn)
  case pkt1024Data =>
    obtain ⟨hp, h | ⟨-, hn, heot⟩⟩ := he
    · exact absurd h noTx
    · exact run (by rw [hp]; rfl) (fetchIdle_dataLoop hp hn heot)
  case eot =>
    obtain ⟨hp, -, heot⟩ | ⟨-, h⟩ := he
    · exact run (by rw [hp]; rfl) (fetchIdle_eotNext hp heot)
    · exact absurd h noTx
  case pkt128Fin =>
    obtain ⟨hp, -, hn⟩ | ⟨hp, h | ⟨-, hn, ht⟩⟩ := he
    · exact run (by rw [hp]; rfl) (fetchIdle_eotSent hp hn)
    · exact absurd h noTx
    · exact run (by rw [hp]; rfl) (fetchIdle_finSent hp hn ht)

/-- One step of the opening header or of a data packet brings the unit nearer by one at most; `HS` leaves idle only
at the last one. -/
theorem exec_stepsLeft (hi : i = .pkt128Hdr ∨ i = .pkt1024Data) (h : exec i s = .next t) (hh : s.hs = .idle) :
    (t.hs = .idle ∧ stepsLeft i s.todo ≤ stepsLeft i t.todo + 1) ∨ stepsLeft i s.todo ≤ 1 := by
  obtain ⟨hr, he, -⟩ := exec_next h
  have hsend : sendPhase i ≠ none := by rcases hi with rfl | rfl <;> nofun
  have hform : (PacketForm i .headerSent ∧ s.phase = .headerSent)
      ∨ (PacketForm i .dataLoop ∧ buildSteps i = 4 ∧ s.phase = .dataLoop ∧ ¬ EotNext s) := by
    rcases hi with rfl | rfl
    · exact .inl ⟨packetForm_hdr, he.1⟩
    · obtain ⟨hp, h | ⟨-, -, heot⟩⟩ := he
      · rw [hh] at h; cases h
      · exact .inr ⟨packetForm_data, rfl, hp, heot⟩
  have hle (d : Todo) : stepsLeft i d ≤ buildSteps i := hform.elim (fun h => stepsLeft_le h.1 d)
    fun h => stepsLeft_le h.1 d
  have hfive : buildSteps i ≤ 5 := by rcases hi with rfl | rfl <;> decide
  rw [exec_eq_coreStep hsend he hh] at h
  cases coreStep_move hr h with
  | waits => exact .inl ⟨hh, Nat.le_succ _⟩
  | held hu =>
    obtain ⟨e, -, rfl⟩ := hu.eq_env
    exact .inl ⟨hh, Nat.le_succ _⟩
  | aborts =>
    rw [raiseAbort_hs, raiseAbort_todo]
    exact .inl ⟨rfl, (hle s.todo).trans (Nat.le_succ _)⟩
  | measures => exact .inl ⟨hh, (hle s.todo).trans hfive⟩
  | readsNone _ ht hp ha =>
    rcases hform with ⟨-, hp'⟩ | ⟨-, -, -, heot⟩
    · rw [hp] at hp'; cases hp'
    · exact absurd (.inr ⟨ht, ha⟩) heot
  | readsChunk _ _ hp _ _ =>
    rcases hform with ⟨-, hp'⟩ | ⟨-, hfour, -, -⟩
    · rw [hp] at hp'; cases hp'
    · exact .inl ⟨hh, (hle s.todo).trans hfour.le⟩
  | beginsFin _ _ hp => rcases hform with ⟨-, hp'⟩ | ⟨-, -, hp', -⟩ <;> rw [hp] at hp' <;> cases hp'
  | ends _ _ hp => rcases hform with ⟨-, hp'⟩ | ⟨-, -, hp', -⟩ <;> rw [hp] at hp' <;> cases hp'
  | beginsHdr _ ht | pads _ ht => rw [ht]; exact .inl ⟨hh, le_rfl⟩
  | loads _ hload _ => rcases hload with ⟨ht, -⟩ | ⟨ht, -⟩ | ⟨ht, -⟩ <;> rw [ht] <;> exact .inl ⟨hh, le_rfl⟩
  | beginsEot _ ht | builds _ ht _ => rw [ht]; exact .inr le_rfl
  | acksHdr _ ht _ | acksData _ ht _ | rests _ ht _ => rw [ht]; exact .inr (Nat.zero_le _)
  | writes hh' | written hh' | probes hh' | cancels hh' | retries hh' | answers hh' | cancelled hh' | probed hh' =>
    rw [hh] at hh'; cases hh'

/-- With more steps to go than were made, the unit is not on its way. -/
theorem execs_idle (hi : i = .pkt128Hdr ∨ i = .pkt1024Data) :
    ∀ {n : Nat} {s : State}, execs n i s = .next t → s.hs = .idle → n < stepsLeft i s.todo → t.hs = .idle
  | 0, s, h, hh, _ => by cases h; exact hh
  | n + 1, s, h, hh, hn => by
    simp only [execs] at h
    cases hs : exec i s with
    | next u =>
      rw [hs] at h
      rcases exec_stepsLeft hi hs hh with ⟨hu, hleft⟩ | hlast
      · exact execs_idle hi h hu (by omega)
      · omega
    | fault f => rw [hs] at h; cases h
    | refused r => rw [hs] at h; cases h

/-- A form whose first step has not begun its unit is not at its first byte in time. -/
theorem execs_idle_of_not_begun {n : Nat} {u : State} (hi : i = .pkt128Hdr ∨ i = .pkt1024Data)
    (he : exec i s = .next u) (hh : u.hs = .idle) (ht : u.todo = .none) (hn : n < buildSteps i)
    (hex : execs (n + 1) i s = .next t) : t.hs = .idle := by
  rw [execs_succ he] at hex
  exact execs_idle hi hex hh (by rw [ht]; exact hn)

/-! ### The unit a form has built -/

/-- The current unit of `t` is a well-formed unit of the form `i`, of `PKTLEN` bytes, and decodes to it. -/
def UnitIs (i : Instr) (t : State) : Prop :=
  ∃ f bytes, t.unitBytes = some bytes ∧ f.wellFormed i = true ∧ bytes = encode f i
    ∧ decode .transmit bytes = .ok i ∧ bytes.length = t.pktlen.toNat

theorem UnitIs.of_unitBytes (hi : i.readPoint = .transmit)
    (hf : f.wellFormed i = true) (hu : t.unitBytes = some (encode f i))
    (hl : (encode f i).length = t.pktlen.toNat) : UnitIs i t :=
  ⟨f, _, hu, hf, rfl, decode_transmit_encode hi hf, hl⟩

/-- The opening header: a `FileSize` that is not answered leaves the unit five steps away. -/
theorem pkt128Hdr_built_decodes (hw : s.params.wellFormed = true) (hs : Between s .headerSent .none)
    (hex : execs 5 .pkt128Hdr s = .next t) (htx : t.hs = .tx) : UnitIs .pkt128Hdr t := by
  have hfirst := exec_pkt128Hdr_first hs
  have notYet {u : State} (hh : u.hs = .idle) (ht : u.todo = .none) (he : exec .pkt128Hdr s = .next u) : False := by
    cases htx.symm.trans (execs_idle_of_not_begun (.inl rfl) he hh ht (by decide) hex)
  rcases sizeProbe_cases s with ⟨-, e⟩ | ⟨-, e⟩ | ⟨-, e⟩ | ⟨-, -, e⟩ | ⟨ha, hfit, -⟩
  · exact (notYet (raiseAbort_hs _ _) (raiseAbort_todo _ _) (by rw [hfirst, e, out_raise])).elim
  · exact (notYet (u := s.sizeAnswered) hs.1.2.1 hs.2 (by rw [hfirst, e, out_go])).elim
  · exact (notYet hs.1.2.1 hs.2 (by rw [hfirst, e, out_go])).elim
  · rw [e] at hfirst
    simp [execs, hfirst] at hex
  · have hlen := headerFields_fits hw hfit
    rw [execs_pkt128Hdr_built hs ha hfit hlen] at hex
    cases hex
    have hf := headerFields_wellFormed hw hfit
    refine UnitIs.of_unitBytes rfl hf (unitOf_unitBytes (s := measured s) nofun hlen) ?_
    rw [unitOf_pktlen]
    exact encodePacket_length_of (padded_length hlen)

/-- A data packet: a `FileRead` that is not answered leaves the unit four steps away; a chunk that is too long ends
the session. -/
theorem pkt1024Data_built_decodes (hb : s.bsel = true) (hs : Between s .dataLoop .none)
    (heot : ¬ EotNext s) (hex : execs 4 .pkt1024Data s = .next t) (htx : t.hs = .tx) :
    UnitIs .pkt1024Data t := by
  have hbs : s.blockSize = 1024 := blockSize_of_bsel_true hb
  have hfirst := exec_pkt1024Data_first hs fun ha => heot (.inr ⟨hs.2, ha⟩)
  have notYet {u : State} (hh : u.hs = .idle) (ht : u.todo = .none) (he : exec .pkt1024Data s = .next u) : False := by
    cases htx.symm.trans (execs_idle_of_not_begun (.inr rfl) he hh ht (by decide) hex)
  rcases dataRead_cases s with ⟨-, e⟩ | ⟨-, e⟩ | ⟨-, e⟩ | ⟨ha, -⟩ | ⟨chunk, hne, ha, -⟩
  · exact (notYet (raiseAbort_hs _ _) (raiseAbort_todo _ _) (by rw [hfirst, e, out_raise])).elim
  · exact (notYet (u := s.readHeld) hs.1.2.1 hs.2 (by rw [hfirst, e, out_go])).elim
  · exact (notYet hs.1.2.1 hs.2 (by rw [hfirst, e, out_go])).elim
  · exact absurd (.inr ⟨hs.2, ha⟩) heot
  · by_cases hlen : chunk.length ≤ s.blockSize
    · rw [execs_pkt1024Data_built hs ha hne hlen] at hex
      cases hex
      have hpad := padded_length (padByte := s.params.padByte) hlen
      have hmark : ({ chunkRead chunk s with kind := .data } : State).mark = Config.stx := by
        simp [State.mark, chunkRead, hb]
      have hf : WireFields.wellFormed ⟨s.seq, padded s.params.padByte s.blockSize chunk⟩ .pkt1024Data = true := by
        simp only [WireFields.wellFormed, hpad.trans hbs]
        rfl
      have hu := unitOf_unitBytes (s := { chunkRead chunk s with kind := .data }) nofun hlen
      rw [hmark] at hu
      refine UnitIs.of_unitBytes rfl hf hu ?_
      rw [unitOf_pktlen]
      exact encodePacket_length_of hpad
    · have raised : exec .pkt1024Data (chunkRead chunk s)
          = .next (raiseAbort .framingError { chunkRead chunk s with kind := .data }) := by
        rw [exec_builds packetForm_data (s := chunkRead chunk s) hs.1 rfl,
          runTodo_dataSend_tooLong (s := chunkRead chunk s) rfl (Nat.not_le.mp hlen), out_raise]
      rw [execs_succ (exec_pkt1024Data_chunk hs ha hne), execs_succ raised] at hex
      cases htx.symm.trans (execs_idle (.inr rfl) hex (raiseAbort_hs _ _) (by rw [raiseAbort_todo]; decide))

end Sys2Proof.Machine

namespace Sys2Proof

open Machine

/-- Settles O18: a form that has come to its first byte in that many steps was never held back, and its unit is the
packet of its padded payload. -/
theorem builtUnitsDecode : Obligations.BuiltUnitsDecode := by
  intro i s t hi hw hb hh ht hex htx
  have between {u : State} (h : exec i s = .next u) {p : Phase} (hp : s.phase = p) : Between s p .none := by
    obtain ⟨hr, -, -⟩ := exec_next h
    obtain ⟨-, -, hst⟩ := reservedCode_eq_none.mp hr
    exact ⟨⟨hp, hh, hst⟩, ht⟩
  have noTx : s.hs ≠ .tx := by rw [hh]; nofun
  obtain ⟨u, hu⟩ : ∃ u, exec i s = .next u := by
    cases hs : exec i s with
    | next u => exact ⟨u, rfl⟩
    | fault f => cases i <;> cases hi <;> simp [buildSteps, execs, hs] at hex
    | refused r => cases i <;> cases hi <;> simp [buildSteps, execs, hs] at hex
  obtain ⟨-, he, -⟩ := exec_next hu
  cases i <;> cases hi
  case pkt128Hdr =>
    obtain ⟨hp, -⟩ := he
    exact pkt128Hdr_built_decodes hw (between hu hp) hex htx
  case pkt1024Data =>
    obtain ⟨hp, h | ⟨-, -, heot⟩⟩ := he
    · exact absurd h noTx
    · exact pkt1024Data_built_decodes (hb rfl) (between hu hp) heot hex htx
  case eot =>
    obtain ⟨hp, -, heot | ⟨-, ha⟩⟩ | ⟨-, h⟩ := he
    · rw [ht] at heot; cases heot
    · cases (execs_eot_built (between hu hp) ha).symm.trans hex
      exact UnitIs.of_unitBytes (f := ⟨0#8, []⟩) rfl rfl rfl rfl
    · exact absurd h noTx
  case pkt128Fin =>
    obtain ⟨hp, -, -⟩ | ⟨-, h | ⟨-, -, h⟩⟩ := he
    · have hlen : (headerFields [] 0).length ≤ (finSend s).blockSize := Nat.le_of_ble_eq_true rfl
      cases (execs_pkt128Fin_built (between hu hp)).symm.trans hex
      have hpad := padded_length (padByte := s.params.padByte) hlen
      have hf : WireFields.wellFormed ⟨0#8, padded s.params.padByte 128 (headerFields [] 0)⟩ .pkt128Fin = true := rfl
      refine UnitIs.of_unitBytes rfl hf (unitOf_unitBytes (s := finSend s) nofun hlen) ?_
      rw [unitOf_pktlen]
      exact encodePacket_length_of hpad
    · exact absurd h noTx
    · exact absurd ht h

end Sys2Proof

namespace Sys2Proof.Machine

variable {s t : State}

/-! ### What the invariant says at a control point -/

theorem CoreInv.env (h : CoreInv s) (e : Env) : CoreInv { s with env := e } :=
  ⟨h.pbufWf, h.plenBound, h.fsizeBound, h.retryBound, h.fclosedIff, h.hsFits, h.statusFits⟩

theorem hsFits_idle (hh : s.hs = .idle) : s.hsFits = true ↔ s.idleFits = true := by
  simp [State.hsFits, hh]

theorem hsFits_tx (hh : s.hs = .tx) :
    s.hsFits = true ↔ s.todo = .none ∧ s.unitFits = true ∧ s.txidx < s.pktlen := by
  simp [State.hsFits, hh, and_assoc]

theorem hsFits_wait (hh : s.hs = .wait) :
    s.hsFits = true ↔ s.todo = .none ∧ s.unitFits = true ∧ s.txidx = s.pktlen := by
  simp [State.hsFits, hh, and_assoc]

theorem hsFits_ca2 (hh : s.hs = .ca2) :
    s.hsFits = true ↔ s.todo = .none ∧ s.unitFits = true ∧ s.txidx = s.pktlen ∧ s.lastRespValid = true
      ∧ s.lastResp = Config.ca := by
  simp [State.hsFits, hh, and_assoc]

theorem hsFits_probe (hh : s.hs = .probe) :
    s.hsFits = true ↔ s.todo = .none ∧ s.unitFits = true ∧ s.txidx = s.pktlen ∧ s.lastRespValid = true
      ∧ s.lastResp = Config.ack ∧ s.gate = true := by
  simp [State.hsFits, hh, and_assoc]

theorem CoreInv.idle (h : CoreInv s) (hh : s.hs = .idle) : s.idleFits = true := (hsFits_idle hh).mp h.hsFits

/-- In a session no status is set and the file is open (R40, R43). -/
theorem CoreInv.busy (h : CoreInv s) (hb : s.phase.isBusy = true) : s.status = .none ∧ s.fclosed = false := by
  have hst := h.statusFits
  have hfc := h.fclosedIff
  cases hp : s.phase <;> simp_all [Phase.isBusy, Phase.isTerminal, State.statusFits]

theorem statusFits_of_busy (hb : s.phase.isBusy = true) (hst : s.status = .none) : s.statusFits = true := by
  cases hp : s.phase <;> simp_all [Phase.isBusy, State.statusFits]

theorem isTerminal_of_busy {p : Phase} (hb : p.isBusy = true) : p.isTerminal = false := by
  cases p <;> simp_all [Phase.isBusy, Phase.isTerminal]

/-- A unit is on its way only in a session. -/
theorem busy_of_unitFits (h : s.unitFits = true) : s.phase.isBusy = true := by
  unfold State.unitFits at h
  split at h <;> simp_all [Phase.isBusy]

theorem busy_of_packetFits (h : s.packetFits = true) : s.phase.isBusy = true := by
  unfold State.packetFits at h
  split at h <;> simp_all [Phase.isBusy]

/-- A unit has at least one byte. -/
theorem pktlen_pos_of_unitFits (h : s.unitFits = true) : 0#11 < s.pktlen := by
  have hlen : s.pktlen = 133#11 ∨ s.pktlen = 1029#11 ∨ s.pktlen = 1#11 := by
    unfold State.unitFits at h
    split at h <;> simp_all
  rcases hlen with e | e | e <;> rw [e] <;> decide

/-! ### What a move inside a session has to show -/

/-- Where the core stays in a session, keeps `STATUS` and `FCLOSED`, and only `HS` with what belongs to it changes. -/
theorem CoreInv.step (h : CoreInv s) (hb : s.phase.isBusy = true) (hb' : t.phase.isBusy = true)
    (hpar : t.params = s.params) (hst : t.status = s.status) (hfc : t.fclosed = s.fclosed)
    (hbuf : t.pbuf.wf = true) (hplen : t.plen.toNat ≤ 1024) (hfsize : t.fsize < 2 ^ s.params.sizeBits)
    (hretry : t.retry ≤ s.params.maxRetries) (hfits : t.hsFits = true) : CoreInv t := by
  obtain ⟨hnone, hopen⟩ := h.busy hb
  exact ⟨hbuf, hplen, hpar ▸ hfsize, hpar ▸ hretry, by rw [hfc, hopen, isTerminal_of_busy hb'], hfits,
    statusFits_of_busy hb' (hst.trans hnone)⟩

end Sys2Proof.Machine

namespace Sys2Proof.Machine

variable {s t : State}

/-! ### The ends of a session keep the invariant -/

/-- What an abort's status says is so (R243 to R247). -/
theorem statusFits_of_abort {st : Status} {k : Kind} {e : Env} (h : CoreInv s)
    (cause : AbortCause s (raiseAbort st { s with kind := k, env := e })) :
    (raiseAbort st { s with kind := k, env := e }).statusFits = true := by
  simp only [AbortCause, raiseAbort_status] at cause
  simp only [State.statusFits, raiseAbort_phase, raiseAbort_status, raiseAbort_lastRespValid, raiseAbort_lastResp,
    raiseAbort_params]
  rcases cause with ⟨rfl, -⟩ | ⟨rfl, hh, ht, -⟩ | ⟨rfl, hh, ⟨b, ht⟩, -⟩ | ⟨rfl, -⟩ | ⟨rfl, hen, -⟩
  · rfl
  · have := h.idle hh
    simp_all [State.idleFits, State.respFits]
  · have := h.idle hh
    simp_all [State.idleFits, State.respFits]
  · rfl
  · exact hen

theorem CoreInv.abort {st : Status} {k : Kind} {e : Env} (h : CoreInv s)
    (cause : AbortCause s (raiseAbort st { s with kind := k, env := e })) :
    CoreInv (raiseAbort st { s with kind := k, env := e }) where
  pbufWf := by rw [raiseAbort_pbuf]; exact h.pbufWf
  plenBound := by rw [raiseAbort_plen]; exact h.plenBound
  fsizeBound := by rw [raiseAbort_fsize, raiseAbort_params]; exact h.fsizeBound
  retryBound := by rw [raiseAbort_retry, raiseAbort_params]; exact h.retryBound
  fclosedIff := by rw [raiseAbort_fclosed, raiseAbort_phase]; rfl
  hsFits := by simp [State.hsFits, State.idleFits, State.restFits]
  statusFits := statusFits_of_abort h cause

theorem CoreInv.finish (h : CoreInv s) (hh : s.hs = .idle) (ht : s.todo = .none) (hp : s.phase = .finSent) :
    CoreInv (finish .success s) where
  pbufWf := by rw [finish_pbuf]; exact h.pbufWf
  plenBound := by rw [finish_plen]; exact h.plenBound
  fsizeBound := by rw [finish_fsize, finish_params]; exact h.fsizeBound
  retryBound := by rw [finish_retry, finish_params]; exact h.retryBound
  fclosedIff := by rw [finish_fclosed, finish_phase]; rfl
  hsFits := by simp [State.hsFits, State.idleFits, State.restFits, ht]
  statusFits := by
    have := h.idle hh
    simp_all [State.statusFits, State.idleFits, State.restFits]

/-! ### Loading, padding and building keep it -/

theorem loaded_plen {src : List Byte} (h : src.length ≤ 1024) (s : State) :
    (loaded src s).plen.toNat = src.length := by
  simp only [loaded, BitVec.toNat_ofNat]
  omega

/-- What was loaded can be read back. -/
theorem loaded_memRead (src : List Byte) (s : State) : memRead (loaded src s).pbuf 0 src.length = some src := by
  simp [loaded, memWrite, memRead_cellsFrom]

/-- After `PAD` every byte of the block holds a value (R144). -/
theorem pad_memRead (hwf : s.pbuf.wf = true) (hplen : s.plen.toNat ≤ s.blockSize)
    (hm : (memRead s.pbuf 0 s.plen.toNat).isSome = true) :
    (memRead (pad s).pbuf 0 s.blockSize).isSome = true := by
  obtain ⟨bytes, hbytes⟩ := Option.isSome_iff_exists.mp hm
  obtain ⟨hlen, hbyte⟩ := memByte_of_memRead hwf hbytes
  have hroom : s.plen.toNat + (s.blockSize - s.plen.toNat) = s.blockSize := by omega
  have hwf' : (pad s).pbuf.wf = true := by
    rw [pad_pbuf]
    refine memWrite_wf hwf ?_
    rw [List.length_replicate, hroom]
    exact blockSize_le s
  refine memRead_isSome hwf' fun a ha => ?_
  rw [Nat.zero_add, pad_pbuf, memByte_memWrite, List.length_replicate, hroom]
  split
  case isTrue hin =>
    have : a - s.plen.toNat < s.blockSize - s.plen.toNat := by omega
    simp [this]
  case isFalse hout =>
    have hlt : a < s.plen.toNat := by omega
    have := hbyte a hlt
    rw [Nat.zero_add] at this
    simp [this, hlen, hlt]

theorem pad_wf (hwf : s.pbuf.wf = true) (hplen : s.plen.toNat ≤ s.blockSize) : (pad s).pbuf.wf = true := by
  rw [pad_pbuf]
  refine memWrite_wf hwf ?_
  have := blockSize_le s
  simp only [List.length_replicate, pbufSize]
  omega

theorem crcFits_of {payload : List Byte} (hm : memRead s.pbuf 0 s.blockSize = some payload)
    (hc : s.crc = crc16 payload Config.crcInitial) : s.crcFits = true := by
  simp [State.crcFits, hm, hc]

/-- A block that is complete makes a unit (R148). -/
theorem sending_unitFits {payload : List Byte} (hp : s.packetFits = true)
    (hm : memRead s.pbuf 0 s.blockSize = some payload) : (sending payload s).unitFits = true := by
  have hcrc : (sending payload s).crcFits = true := crcFits_of (s := sending payload s) hm rfl
  have hbs : s.blockSize = if s.bsel then 1024 else 128 := rfl
  unfold State.packetFits at hp
  unfold State.unitFits
  rw [hcrc]
  simp only [sending, hbs]
  split at hp <;> simp_all

end Sys2Proof.Machine

namespace Sys2Proof.Machine

variable {s t : State}

/-! ### What a move has to show of the control point it comes to -/

theorem hsFits_of_idle (hh : s.hs = .idle) (h : s.idleFits = true) : s.hsFits = true := (hsFits_idle hh).mpr h

theorem idleFits_of_none (ht : s.todo = .none) (h : s.restFits = true) : s.idleFits = true := by
  simp [State.idleFits, ht, h]

theorem idleFits_of_pad (ht : s.todo = .pad) (hp : s.packetFits = true) (hl : s.plen.toNat ≤ s.blockSize)
    (hm : (memRead s.pbuf 0 s.plen.toNat).isSome = true) : s.idleFits = true := by
  simp [State.idleFits, ht, hp, hl, hm]

theorem idleFits_of_buildPacket (ht : s.todo = .buildPacket) (hp : s.packetFits = true)
    (hm : (memRead s.pbuf 0 s.blockSize).isSome = true) : s.idleFits = true := by
  simp [State.idleFits, ht, hp, hm]

theorem hsFits_of_resp {r : Resp} (hh : s.hs = .idle) (ht : s.todo = .resp r) (h : s.respFits r = true) :
    s.hsFits = true := by
  simp [State.hsFits, hh, State.idleFits, ht, h]

/-- A response to a unit that fits its phase fits the sequencer's operation (R174). -/
theorem respFits_of_unitFits {r : Resp} (hu : s.unitFits = true) (hv : s.lastRespValid = true)
    (hack : r = .ack → s.lastResp = Config.ack) (hcancel : r = .cancel → s.lastResp = Config.ca)
    (hother : ∀ b, r = .other b → s.lastResp = b ∧ b ≠ Config.ack ∧ b ≠ Config.ca) : s.respFits r = true := by
  unfold State.unitFits at hu
  unfold State.respFits
  cases r <;> split at hu <;> simp_all

/-! ### The internal operations keep the invariant -/

/-- Where `LOAD_PAYLOAD` is next, the registers are those of a packet of the phase (R204, R207, R211). -/
theorem packetFits_of_loads {k : Kind} {src : List Byte} (h : CoreInv s) (hh : s.hs = .idle) (hl : Loads s k src) :
    ({ s with kind := k } : State).packetFits = true := by
  have hidle := h.idle hh
  rcases hl with ⟨ht, rfl, -⟩ | ⟨ht, rfl⟩ | ⟨ht, rfl, -⟩ <;> simp only [State.idleFits, ht, Bool.and_eq_true] at hidle
  · exact hidle.2
  · obtain ⟨⟨hp, hb⟩, -⟩ := hidle
    simp_all [State.packetFits]
  · exact hidle.2

theorem CoreInv.loads {k : Kind} {src : List Byte} (h : CoreInv s) (hh : s.hs = .idle) (hl : Loads s k src)
    (hfit : src.length ≤ s.blockSize) : CoreInv { loaded src { s with kind := k } with todo := .pad } := by
  have hpacket := packetFits_of_loads h hh hl
  have hb : s.phase.isBusy = true := busy_of_packetFits (s := { s with kind := k }) hpacket
  have hlen : src.length ≤ 1024 := hfit.trans (blockSize_le s)
  have hplen := loaded_plen hlen { s with kind := k }
  have hread := loaded_memRead src { s with kind := k }
  refine h.step hb hb rfl rfl rfl ?_ (hplen.trans_le hlen) h.fsizeBound h.retryBound ?_
  · exact memWrite_wf h.pbufWf (by simpa [pbufSize] using hlen)
  · refine hsFits_of_idle hh (idleFits_of_pad rfl hpacket (hplen.trans_le hfit) ?_)
    show (memRead (loaded src { s with kind := k }).pbuf 0 (loaded src { s with kind := k }).plen.toNat).isSome = true
    rw [hplen, hread]
    rfl

theorem CoreInv.pads (h : CoreInv s) (hh : s.hs = .idle) (ht : s.todo = .pad) :
    CoreInv { pad s with todo := .buildPacket } := by
  have hidle := h.idle hh
  simp only [State.idleFits, ht, Bool.and_eq_true, decide_eq_true_eq] at hidle
  obtain ⟨⟨hpacket, hplen⟩, hm⟩ := hidle
  have hb := busy_of_packetFits hpacket
  exact h.step hb hb rfl rfl rfl (pad_wf h.pbufWf hplen) h.plenBound h.fsizeBound h.retryBound
    (hsFits_of_idle hh (idleFits_of_buildPacket rfl hpacket (pad_memRead h.pbufWf hplen hm)))

theorem CoreInv.builds {payload : List Byte} (h : CoreInv s) (hh : s.hs = .idle) (ht : s.todo = .buildPacket)
    (hm : memRead s.pbuf 0 s.blockSize = some payload) : CoreInv (sending payload s) := by
  have hidle := h.idle hh
  simp only [State.idleFits, ht, Bool.and_eq_true] at hidle
  obtain ⟨hpacket, -⟩ := hidle
  have hb := busy_of_packetFits hpacket
  have hunit := sending_unitFits hpacket hm
  exact h.step hb hb rfl rfl rfl h.pbufWf h.plenBound h.fsizeBound (Nat.zero_le _)
    ((hsFits_tx rfl).mpr ⟨rfl, hunit, pktlen_pos_of_unitFits hunit⟩)

theorem CoreInv.beginsHdr (h : CoreInv s) (hh : s.hs = .idle) (ht : s.todo = .hdrSend) : CoreInv (hdrSend s) := by
  have hidle := h.idle hh
  simp only [State.idleFits, ht, beq_iff_eq] at hidle
  have hb : s.phase.isBusy = true := by rw [hidle]; rfl
  refine h.step hb hb rfl rfl rfl h.pbufWf h.plenBound h.fsizeBound h.retryBound (hsFits_of_idle hh ?_)
  simp [State.idleFits, State.packetFits, hidle]

theorem CoreInv.beginsFin (h : CoreInv s) (hh : s.hs = .idle) (hp : s.phase = .eotSent) : CoreInv (finSend s) := by
  have hb : s.phase.isBusy = true := by rw [hp]; rfl
  exact h.step hb rfl rfl rfl rfl h.pbufWf h.plenBound h.fsizeBound h.retryBound (hsFits_of_idle hh rfl)

theorem CoreInv.beginsEot (h : CoreInv s) (hh : s.hs = .idle) (ht : s.todo = .eotSend) : CoreInv (eotSend s) := by
  have hidle := h.idle hh
  simp only [State.idleFits, ht, Bool.and_eq_true, beq_iff_eq] at hidle
  obtain ⟨hp, hbsel⟩ := hidle
  have hb : s.phase.isBusy = true := by rw [hp]; rfl
  refine h.step hb rfl rfl rfl rfl h.pbufWf h.plenBound h.fsizeBound (Nat.zero_le _) ((hsFits_tx rfl).mpr ⟨rfl, ?_, ?_⟩)
  · simp [State.unitFits, hbsel]
  · exact (by decide : 0#11 < 1#11)

/-- An `Ack` to the opening header or to a data packet (R205, R208). -/
theorem CoreInv.acksHdr (h : CoreInv s) (hh : s.hs = .idle) (hp : s.phase = .headerSent) :
    CoreInv { selectFraming true (advance s) with phase := .dataLoop, todo := .none } := by
  have hb : s.phase.isBusy = true := by rw [hp]; rfl
  exact h.step hb rfl rfl rfl rfl h.pbufWf h.plenBound h.fsizeBound h.retryBound
    (hsFits_of_idle hh (idleFits_of_none rfl rfl))

theorem CoreInv.acksData (h : CoreInv s) (hh : s.hs = .idle) (ht : s.todo = .resp .ack) (hp : s.phase = .dataLoop) :
    CoreInv { advance s with todo := .none } := by
  have hidle := h.idle hh
  have hb : s.phase.isBusy = true := by rw [hp]; rfl
  refine h.step hb hb rfl rfl rfl h.pbufWf h.plenBound h.fsizeBound h.retryBound
    (hsFits_of_idle hh (idleFits_of_none rfl ?_))
  simp_all [State.idleFits, State.respFits, State.restFits]

theorem CoreInv.rests {r : Resp} (h : CoreInv s) (hh : s.hs = .idle) (ht : s.todo = .resp r)
    (hp : (s.phase = .eotSent ∧ r = .ack) ∨ s.phase = .finSent) : CoreInv { s with todo := .none } := by
  have hidle := h.idle hh
  have hb : s.phase.isBusy = true := by rcases hp with ⟨hp, -⟩ | hp <;> rw [hp] <;> rfl
  refine h.step hb hb rfl rfl rfl h.pbufWf h.plenBound h.fsizeBound h.retryBound
    (hsFits_of_idle hh (idleFits_of_none rfl ?_))
  rcases hp with ⟨hp, -⟩ | hp <;> simp_all [State.idleFits, State.respFits, State.restFits]

/-! ### The transactions of the channel keep it -/

theorem CoreInv.writes {b : Byte} (h : CoreInv s) (hh : s.hs = .tx) (hlt : s.txidx < s.pktlen) :
    CoreInv (byteSent (s.txWritten b)) := by
  obtain ⟨ht, hunit, -⟩ := (hsFits_tx hh).mp h.hsFits
  have hb := busy_of_unitFits hunit
  refine h.step hb hb rfl rfl rfl h.pbufWf h.plenBound h.fsizeBound h.retryBound ?_
  by_cases hmore : s.txidx + 1#11 < s.pktlen
  · have hhs : (byteSent (s.txWritten b)).hs = .tx := by simp [byteSent, hmore]
    exact (hsFits_tx hhs).mpr ⟨ht, hunit, hmore⟩
  · have hhs : (byteSent (s.txWritten b)).hs = .wait := by simp [byteSent, hmore]
    have hlast : s.txidx + 1#11 = s.pktlen := by bv_omega
    exact (hsFits_wait hhs).mpr ⟨ht, hunit, hlast⟩

theorem CoreInv.probes (h : CoreInv s) (hh : s.hs = .wait) (hg : s.gate = true) :
    CoreInv { awaited Config.ack s with hs := .probe } := by
  obtain ⟨ht, hunit, hidx⟩ := (hsFits_wait hh).mp h.hsFits
  have hb := busy_of_unitFits hunit
  exact h.step hb hb rfl rfl rfl h.pbufWf h.plenBound h.fsizeBound h.retryBound
    ((hsFits_probe rfl).mpr ⟨ht, hunit, hidx, rfl, rfl, hg⟩)

theorem CoreInv.cancels (h : CoreInv s) (hh : s.hs = .wait) : CoreInv { awaited Config.ca s with hs := .ca2 } := by
  obtain ⟨ht, hunit, hidx⟩ := (hsFits_wait hh).mp h.hsFits
  have hb := busy_of_unitFits hunit
  exact h.step hb hb rfl rfl rfl h.pbufWf h.plenBound h.fsizeBound h.retryBound
    ((hsFits_ca2 rfl).mpr ⟨ht, hunit, hidx, rfl, rfl⟩)

theorem CoreInv.retries (h : CoreInv s) (hh : s.hs = .wait) (hr : s.retry < s.params.maxRetries) :
    CoreInv (beginSend false { awaited Config.nak s with retry := s.retry + 1 }) := by
  obtain ⟨ht, hunit, -⟩ := (hsFits_wait hh).mp h.hsFits
  have hb := busy_of_unitFits hunit
  exact h.step hb hb rfl rfl rfl h.pbufWf h.plenBound h.fsizeBound hr
    ((hsFits_tx rfl).mpr ⟨ht, hunit, pktlen_pos_of_unitFits hunit⟩)

theorem CoreInv.answers {r : Resp} {b : Byte} (h : CoreInv s) (hh : s.hs = .wait) (ha : s.rxAnswer = .byte b)
    (hr : Answered s r) : CoreInv (returned r (awaited b s)) := by
  obtain ⟨-, hunit, -⟩ := (hsFits_wait hh).mp h.hsFits
  have hb := busy_of_unitFits hunit
  refine h.step hb hb rfl rfl rfl h.pbufWf h.plenBound h.fsizeBound h.retryBound (hsFits_of_resp rfl rfl ?_)
  refine respFits_of_unitFits hunit rfl ?_ ?_ ?_
  · rintro rfl
    obtain ⟨-, e, -⟩ | ⟨e, -⟩ := hr
    · rw [ha] at e; cases e; rfl
    · rw [hh] at e; cases e
  · rintro rfl
    obtain ⟨e, -⟩ := hr
    rw [hh] at e; cases e
  · rintro c rfl
    obtain ⟨-, e, h1, h2, -⟩ := hr
    rw [ha] at e; cases e
    exact ⟨rfl, h1, h2⟩

theorem CoreInv.cancelled {b : Byte} (h : CoreInv s) (hh : s.hs = .ca2) : CoreInv (returned .cancel (s.rxTook b)) := by
  obtain ⟨-, hunit, -, hv, hlast⟩ := (hsFits_ca2 hh).mp h.hsFits
  have hb := busy_of_unitFits hunit
  exact h.step hb hb rfl rfl rfl h.pbufWf h.plenBound h.fsizeBound h.retryBound
    (hsFits_of_resp rfl rfl (respFits_of_unitFits hunit hv nofun (fun _ => hlast) nofun))

/-- A poll changes the environment alone (R24, R176). -/
theorem pollTook_eq (o : Option Byte) (s : State) : s.pollTook o = { s with env := s.env.afterPoll o } := by
  cases o <;> rfl

theorem CoreInv.probed {o : Option Byte} (h : CoreInv s) (hh : s.hs = .probe) :
    CoreInv (returned .ack (s.pollTook o)) := by
  obtain ⟨-, hunit, -, hv, hlast, -⟩ := (hsFits_probe hh).mp h.hsFits
  have hb := busy_of_unitFits hunit
  rw [pollTook_eq]
  exact h.step hb hb rfl rfl rfl h.pbufWf h.plenBound h.fsizeBound h.retryBound
    (hsFits_of_resp rfl rfl (respFits_of_unitFits hunit hv (fun _ => hlast) nofun nofun))

/-! ### One step -/

/-- Every move of the core keeps its invariant. -/
theorem CoreMove.coreInv (hm : CoreMove s t) (h : CoreInv s) : CoreInv t := by
  have inPhase {p : Phase} (hp : s.phase = p) (hb : p.isBusy = true) : s.phase.isBusy = true := hp ▸ hb
  cases hm with
  | waits => exact h
  | held hu =>
    obtain ⟨e, -, rfl⟩ := hu.eq_env
    exact h.env e
  | aborts hb hu cause =>
    obtain ⟨k, e, -, rfl⟩ := hu.eq_kind_env
    exact h.abort cause
  | measures hh ht hp ha hfit =>
    have hb : s.phase.isBusy = true := inPhase hp rfl
    exact h.step hb hb rfl rfl rfl h.pbufWf h.plenBound hfit h.retryBound
      (hsFits_of_idle hh (by simp [State.idleFits, hp]))
  | readsNone hh ht hp ha =>
    have hb : s.phase.isBusy = true := inPhase hp rfl
    have hrest : s.bsel = true := by simpa [State.idleFits, State.restFits, ht, hp] using h.idle hh
    exact h.step hb hb rfl rfl rfl h.pbufWf h.plenBound h.fsizeBound h.retryBound
      (hsFits_of_idle hh (by simp [State.idleFits, hp, hrest]))
  | readsChunk hh ht hp hne ha =>
    have hb : s.phase.isBusy = true := inPhase hp rfl
    have hrest : s.bsel = true := by simpa [State.idleFits, State.restFits, ht, hp] using h.idle hh
    exact h.step hb hb rfl rfl rfl h.pbufWf h.plenBound h.fsizeBound h.retryBound
      (hsFits_of_idle hh (by simp [State.idleFits, hp, hrest, hne]))
  | beginsFin hh ht hp => exact h.beginsFin hh hp
  | ends hh ht hp => exact h.finish hh ht hp
  | beginsHdr hh ht => exact h.beginsHdr hh ht
  | loads hh hload hfit => exact h.loads hh hload hfit
  | beginsEot hh ht => exact h.beginsEot hh ht
  | pads hh ht => exact h.pads hh ht
  | builds hh ht hm => exact h.builds hh ht hm
  | acksHdr hh ht hp => exact h.acksHdr hh hp
  | acksData hh ht hp => exact h.acksData hh ht hp
  | rests hh ht hp => exact h.rests hh ht hp
  | writes hh hlt hb ha => exact h.writes hh hlt
  | written hh hlt => exact absurd ((hsFits_tx hh).mp h.hsFits).2.2 hlt
  | probes hh ha hg => exact h.probes hh hg
  | cancels hh ha => exact h.cancels hh
  | retries hh ha hk hr => exact h.retries hh hr
  | answers hh ha hr => exact h.answers hh ha hr
  | cancelled hh ha => exact h.cancelled hh
  | probed hh ha => exact h.probed hh

end Sys2Proof.Machine

namespace Sys2Proof.Machine

variable {s t : State}

/-! ### The invariant -/

theorem coreInv_resetWith (p : Params) (e : Env) : CoreInv (State.resetWith p e) :=
  ⟨rfl, Nat.zero_le _, Nat.two_pow_pos _, Nat.zero_le _, rfl, rfl, rfl⟩

theorem CoreInv.sessionStart (h : CoreInv s) : CoreInv (sessionStart s) :=
  ⟨h.pbufWf, h.plenBound, h.fsizeBound, Nat.zero_le _, rfl, rfl, rfl⟩

/-! ### Parameters and `SEQ` -/

theorem closeFile_staleRxAdmitted (s : State) : s.closeFile.env.staleRxAdmitted = s.env.staleRxAdmitted := by
  unfold State.closeFile
  split <;> rfl

theorem CoreMove.params_eq (h : CoreMove s t) : t.params = s.params := by
  cases h with
  | held hu => obtain ⟨e, -, rfl⟩ := hu.eq_env; rfl
  | aborts hb hu cause => obtain ⟨k, e, -, rfl⟩ := hu.eq_kind_env; exact raiseAbort_params _ _
  | ends hh ht hp => exact finish_params s .success
  | probed hh ha => rw [returned_params, pollTook_eq]
  | _ => rfl

theorem CoreMove.staleRxAdmitted_eq (h : CoreMove s t) : t.env.staleRxAdmitted = s.env.staleRxAdmitted := by
  cases h with
  | held hu => obtain ⟨e, he, rfl⟩ := hu.eq_env; exact he
  | aborts hb hu cause =>
    obtain ⟨k, e, he, rfl⟩ := hu.eq_kind_env
    rw [raiseAbort_env, closeFile_staleRxAdmitted, he]
  | ends hh ht hp => rw [finish_env, closeFile_staleRxAdmitted]
  | @probed o hh ha => cases o <;> rfl
  | _ => rfl

/-- Which moves of the core write `SEQ` (R181, R204, R211). -/
theorem CoreMove.seq_eq (h : CoreMove s t) :
    t.seq = s.seq
    ∨ (t.seq = s.seq + 1#8 ∧ (s.phase = .headerSent ∨ s.phase = .dataLoop) ∧ s.hs = .idle ∧ s.todo = .resp .ack)
    ∨ (t.seq = 0#8 ∧ s.hs = .idle ∧ (s.todo = .hdrSend ∨ (s.phase = .eotSent ∧ s.todo = .none))) := by
  cases h with
  | held hu => obtain ⟨e, -, rfl⟩ := hu.eq_env; exact .inl rfl
  | aborts hb hu cause => obtain ⟨k, e, -, rfl⟩ := hu.eq_kind_env; exact .inl (raiseAbort_seq _ _)
  | ends hh ht hp => exact .inl (finish_seq s .success)
  | probed hh ha => rw [returned_seq, pollTook_eq]; exact .inl rfl
  | acksHdr hh ht hp => exact .inr (.inl ⟨rfl, .inl hp, hh, ht⟩)
  | acksData hh ht hp => exact .inr (.inl ⟨rfl, .inr hp, hh, ht⟩)
  | beginsHdr hh ht => exact .inr (.inr ⟨rfl, hh, .inl ht⟩)
  | beginsFin hh ht hp => exact .inr (.inr ⟨rfl, hh, .inr ⟨hp, ht⟩⟩)
  | _ => exact .inl rfl

/-! ### The table of `PHASE` -/

/-- Which moves of the core write `PHASE` (R200). -/
theorem CoreMove.phase_move (hm : CoreMove s.moved t) (h : CoreInv s) : t.phase = s.phase ∨ PhaseMove s t := by
  cases hm with
  | held hu => obtain ⟨e, -, rfl⟩ := hu.eq_env; exact .inl rfl
  | aborts hb hu cause => exact .inr (.inr (.inr (.inr (.inr (.inr ⟨hb, rfl, cause⟩)))))
  | acksHdr hh ht hp => exact .inr (.inr (.inl ⟨hp, rfl, hh, ht⟩))
  | beginsEot hh ht =>
    have hp : s.phase = .dataLoop := by
      have hidle := h.idle hh
      simp only [State.idleFits, show s.todo = .eotSend from ht, Bool.and_eq_true, beq_iff_eq] at hidle
      exact hidle.1
    exact .inr (.inr (.inr (.inl ⟨hp, rfl, hh, ht, rfl⟩)))
  | beginsFin hh ht hp => exact .inr (.inr (.inr (.inr (.inl ⟨hp, rfl, hh, ht, rfl⟩))))
  | ends hh ht hp => exact .inr (.inr (.inr (.inr (.inr (.inl ⟨hp, rfl, hh, ht, rfl⟩)))))
  | probed hh ha => rw [returned_phase, pollTook_eq]; exact .inl rfl
  | _ => exact .inl rfl

@[simp] theorem moved_sizeAnswer (s : State) : s.moved.sizeAnswer = s.sizeAnswer := rfl
@[simp] theorem moved_readAnswer (s : State) : s.moved.readAnswer = s.readAnswer := rfl

/-- How a move of the core comes to the internal operation that is next (R174, R203 to R212). -/
theorem CoreMove.todo_move (hm : CoreMove s.moved t) : t.todo = s.todo ∨ TodoMove s t := by
  cases hm with
  | held hu => obtain ⟨e, -, rfl⟩ := hu.eq_env; exact .inl rfl
  | aborts hb hu cause => exact .inr (.inr (.inr ⟨raiseAbort_todo _ _, .inl rfl⟩))
  | ends hh ht hp => exact .inl (finish_todo _ _)
  | answers hh ha hr => exact .inr (.inl ⟨_, rfl, rfl, hr⟩)
  | cancelled hh ha => exact .inr (.inl ⟨_, rfl, rfl, hh, _, ha⟩)
  | probed hh ha => exact .inr (.inl ⟨_, rfl, rfl, .inr ⟨hh, _, ha⟩⟩)
  | loads hh hload hfit =>
    rcases hload with ⟨ht, -⟩ | ⟨ht, -⟩ | ⟨ht, -⟩ <;> rw [moved_todo] at ht <;>
      exact .inr (.inr (.inl ⟨hh, by simp [ht]⟩))
  | readsChunk hh ht hp hne ha =>
    simp only [moved_todo, moved_phase, moved_readAnswer] at ht hp ha
    exact .inr (.inr (.inl ⟨hh, by simp [ht, hp, ha, hne]⟩))
  | readsNone hh ht hp ha =>
    simp only [moved_todo, moved_phase, moved_readAnswer] at ht hp ha
    exact .inr (.inr (.inl ⟨hh, by simp [ht, hp, ha]⟩))
  | measures hh ht hp ha hfit =>
    simp only [moved_todo, moved_phase, moved_sizeAnswer] at ht hp ha
    exact .inr (.inr (.inl ⟨hh, by simp [ht, hp, ha]⟩))
  | beginsFin hh ht hp =>
    simp only [moved_todo, moved_phase] at ht hp
    exact .inr (.inr (.inl ⟨hh, by simp [ht, hp]⟩))
  | beginsHdr hh ht | pads hh ht | builds hh ht _ | beginsEot hh ht | acksHdr hh ht _ | acksData hh ht _
  | rests hh ht _ =>
    rw [moved_todo] at ht
    exact .inr (.inr (.inl ⟨hh, by simp [ht, sending]⟩))
  | _ => exact .inl rfl

/-- A state in which neither `FIN_SEND` nor `finish` is next says nothing of the last response. -/
theorem afterLastResponse_of_not_rest
    (h : t.hs ≠ .idle ∨ t.todo ≠ .none ∨ (t.phase ≠ .eotSent ∧ t.phase ≠ .finSent)) : AfterLastResponse s t := by
  constructor <;> intro hp hh ht <;> rcases h with h | h | ⟨h, h'⟩ <;> contradiction

theorem afterLastResponse_of_same (hp : t.phase = s.phase) (hh : t.hs = s.hs) (ht : t.todo = s.todo) :
    AfterLastResponse s t :=
  ⟨fun h1 h2 h3 => ⟨hp ▸ h1, hh ▸ h2, .inl (ht ▸ h3)⟩, fun h1 h2 h3 => ⟨hp ▸ h1, hh ▸ h2, .inl (ht ▸ h3)⟩⟩

/-- How a move of the core comes to rest in `EOT_SENT` and `FIN_SENT` (R210, R212). -/
theorem CoreMove.afterLastResponse (hm : CoreMove s.moved t) : AfterLastResponse s t := by
  cases hm with
  | waits => exact afterLastResponse_of_same rfl rfl rfl
  | held hu => obtain ⟨e, -, rfl⟩ := hu.eq_env; exact afterLastResponse_of_same rfl rfl rfl
  | rests hh ht hp =>
    refine ⟨fun h1 _ _ => ⟨h1, hh, .inr ?_⟩, fun h1 _ _ => ⟨h1, hh, .inr ⟨_, ht⟩⟩⟩
    rcases hp with ⟨-, rfl⟩ | hp
    · exact ht
    · exact absurd (hp.symm.trans h1) nofun
  | acksData hh ht hp =>
    refine afterLastResponse_of_not_rest (.inr (.inr ?_))
    show s.phase ≠ .eotSent ∧ s.phase ≠ .finSent
    rw [show s.phase = .dataLoop from hp]
    exact ⟨nofun, nofun⟩
  | writes hh hlt hb ha =>
    refine afterLastResponse_of_not_rest (.inl ?_)
    simp only [byteSent_hs]
    split <;> nofun
  | aborts | ends | acksHdr => exact afterLastResponse_of_not_rest (.inr (.inr ⟨nofun, nofun⟩))
  | beginsEot | builds | written | probes | cancels | retries =>
    exact afterLastResponse_of_not_rest (.inl nofun)
  | _ => exact afterLastResponse_of_not_rest (.inr (.inl nofun))

end Sys2Proof.Machine

namespace Sys2Proof

open Machine

/-- Settles O45: a move of the core by the case it is; a session's start and a reset set every field they need; the
other moves write no register. -/
theorem coreInvariantKept : Obligations.CoreInvariantKept := by
  intro s t h hstep
  rcases step_next hstep with hm | ⟨-, -, -, rfl⟩ | ⟨-, rfl⟩ | ⟨e, -, rfl⟩
  · exact hm.coreInv (h.env _)
  · exact (h.env _).sessionStart
  · exact coreInv_resetWith _ _
  · exact h.env e

/-- Settles O43: each move of the core is a row of the table with its event; of the other agents' moves only a
session's start writes `PHASE`. -/
theorem phaseTable : Obligations.PhaseTable := by
  intro s t h hstep hreset
  rcases step_next hstep with hm | ⟨hhost, hr, hb, rfl⟩ | ⟨hhead, -⟩ | ⟨e, -, rfl⟩
  · exact ⟨hm.phase_move h, hm.todo_move, hm.afterLastResponse⟩
  · have hp : s.phase = .start ∨ s.phase = .closed ∨ s.phase = .aborted := by
      obtain ⟨hp, -⟩ := reservedCode_eq_none.mp hr
      cases hs : s.phase <;> simp_all [Phase.isBusy]
    exact ⟨.inr (.inl ⟨hp, rfl, hhost⟩), .inr (.inr (.inr ⟨rfl, .inr hhost⟩)),
      afterLastResponse_of_not_rest (.inr (.inr ⟨nofun, nofun⟩))⟩
  · exact absurd hhead hreset
  · exact ⟨.inl rfl, .inl rfl, afterLastResponse_of_same rfl rfl rfl⟩

/-- Settles O48: no move of the core, of the host or of the receiver writes either. -/
theorem parametersConstant : Obligations.ParametersConstant := by
  intro s t hstep
  rcases step_next hstep with hm | ⟨-, -, -, rfl⟩ | ⟨-, rfl⟩ | ⟨e, he, rfl⟩
  · exact ⟨hm.params_eq, hm.staleRxAdmitted_eq⟩
  · exact ⟨rfl, rfl⟩
  · exact ⟨rfl, rfl⟩
  · exact ⟨rfl, he⟩

/-- Settles O51: of the core's moves only `ADVANCE` and the beginning of a header write `SEQ`. -/
theorem sequenceRule : Obligations.SequenceRule := by
  intro s t hstep hreset hne
  rcases step_next hstep with hm | ⟨hhost, -, -, rfl⟩ | ⟨hhead, -⟩ | ⟨e, -, rfl⟩
  · rcases hm.seq_eq with heq | hack | ⟨hzero, hh, hbegin⟩
    · exact absurd heq hne
    · exact .inl hack
    · exact .inr ⟨hzero, .inr ⟨hh, hbegin⟩⟩
  · exact .inr ⟨rfl, .inl hhost⟩
  · exact absurd hhead hreset
  · exact absurd rfl hne

end Sys2Proof
end

section
/-!
SUPPORT. The statements of spec/20_memory.md: each move of the core makes at most one transaction at its control point,
and from that transaction alone follows what is written to the channel, read from it and read from the file.
-/

namespace Sys2Proof.Machine

variable {s t : State} {e f : Env}

/-! ### What the answers say of the RX queue, and what `CLOSE` does to the environment -/

/-- A byte that an `RxRead` answers is the oldest of the RX queue (R24, R69). -/
theorem rxQueue_head_of_rxAnswer {b : Byte} (h : s.rxAnswer = .byte b) : s.env.rxQueue.head? = some b := by
  have oldest (h : s.rxOldest = .byte b) : s.env.rxQueue.head? = some b := by
    unfold State.rxOldest at h
    split at h <;> cases h
    next hq => rw [hq]; rfl
  unfold State.rxAnswer at h
  split at h
  · cases h
  · split at h
    · cases h
    · exact oldest h
  · exact oldest h

/-- So is a byte that an `RxPoll` answers (R24, R69). -/
theorem rxQueue_head_of_pollAnswer {b : Byte} (h : s.pollAnswer = .got (some b)) : s.env.rxQueue.head? = some b := by
  unfold State.pollAnswer at h
  split at h
  · exact PollAnswer.got.inj h
  · cases h
  · cases h

/-- `CLOSE` closes a file that is open (R213). -/
theorem closeFile_env (s : State) : s.closeFile.env = if s.fclosed then s.env else s.env.fileClosed := by
  unfold State.closeFile
  split <;> rfl

/-! ### The transactions that several moves make -/

/-- `TxWrite` is refused or held back (R23, R26). -/
theorem AtMostOneTransaction.notWritten (hh : s.hs = .tx) (ha : s.txAnswer ≠ .accept) :
    AtMostOneTransaction s e { e with txDraws := e.txDraws.tail } :=
  .inr (.inr (.inl ⟨hh, ha, rfl⟩))

/-- `RxRead` returns a byte (R24). -/
theorem AtMostOneTransaction.read {b : Byte} (hh : s.hs = .wait ∨ s.hs = .ca2) (ha : s.rxAnswer = .byte b) :
    AtMostOneTransaction s s.env (s.env.afterRead b) :=
  .inr (.inr (.inr (.inl ⟨hh, b, ha, rxQueue_head_of_rxAnswer ha, rfl⟩)))

/-- `FileSize` (R25). -/
theorem AtMostOneTransaction.fileSize (hp : s.phase = .headerSent) (hh : s.hs = .idle) (ht : s.todo = .none) :
    AtMostOneTransaction s e { e with sizeDraws := e.sizeDraws.tail } :=
  .inr (.inr (.inr (.inr (.inr (.inr (.inr (.inl ⟨hp, hh, ht, rfl⟩)))))))

/-- `FileRead` returns a chunk (R25, R62). -/
theorem AtMostOneTransaction.fileRead {c : List Byte} (hp : s.phase = .dataLoop) (hh : s.hs = .idle)
    (ht : s.todo = .none) (ha : s.readAnswer = .chunk c) : AtMostOneTransaction s e (e.afterFileRead c.length) :=
  .inr (.inr (.inr (.inr (.inr (.inr (.inr (.inr (.inl ⟨hp, hh, ht, c, ha, rfl⟩))))))))

/-- `CLOSE` where no transaction was made before it in the step: `FileClose` or nothing (R213). -/
theorem AtMostOneTransaction.close (hh : s.hs = .idle)
    (hc : (s.phase = .finSent ∧ s.todo = .none) ∨ s.todo = .hdrEncode ∨ (∃ chunk, s.todo = .dataSend chunk)
      ∨ ∃ r, s.todo = .resp r) : AtMostOneTransaction s s.env s.closeFile.env := by
  rw [closeFile_env]
  cases hf : s.fclosed with
  | true => exact .inl rfl
  | false => exact .inr (.inr (.inr (.inr (.inr (.inr (.inr (.inr (.inr (.inr (.inr ⟨hh, hf, rfl, hc⟩))))))))))

/-! ### A step of the core makes at most one transaction -/

/-- The transaction of the step fails or times out (R26, R27). -/
def TransactionFails (s : State) : Prop :=
  TransactionError s ∨ ((s.hs = .wait ∨ s.hs = .ca2) ∧ s.rxAnswer = .timeout)

/-- The environment goes from `e` to `g` in a step to `t` by at most one transaction; where that one fails, the abort
may close the file after it (R21, R242). -/
def TransactionStep (s t : State) (e g : Env) : Prop :=
  ∃ f, AtMostOneTransaction s e f
    ∧ (g = f ∨ (s.phase.isBusy = true ∧ TransactionFails s ∧ t.phase = .aborted ∧ s.fclosed = false ∧ g = f.fileClosed))

theorem TransactionStep.of_atMostOne {g : Env} (h : AtMostOneTransaction s e g) : TransactionStep s t e g :=
  ⟨g, h, .inl rfl⟩

/-- An abort finds no transaction made in its step, or the one that failed (R242). -/
theorem BeforeAbort.transaction {st : Status} {u : State} (h : BeforeAbort s st u) :
    u.env = s.env ∨ (TransactionFails s ∧ AtMostOneTransaction s s.env u.env) := by
  rcases h with rfl | ⟨-, rfl⟩ | ⟨hp, hh, ht, ha, rfl⟩ | ⟨hp, hh, ht, ha, rfl⟩ | ⟨hh, ha, rfl⟩ | ⟨hh, ha, rfl⟩ |
    ⟨hh, ha, rfl⟩
  · exact .inl rfl
  · exact .inl rfl
  · exact .inr ⟨.inl (.inl ⟨hh, ht, hp, ha⟩), .fileSize hp hh ht⟩
  · exact .inr ⟨.inl (.inr (.inl ⟨hh, ht, hp, ha⟩)),
      .inr (.inr (.inr (.inr (.inr (.inr (.inr (.inr (.inr (.inl ⟨hp, hh, ht, ha, rfl⟩)))))))))⟩
  · exact .inr ⟨.inl (.inr (.inr (.inl ⟨hh, ha⟩))), .notWritten hh (by simp [ha])⟩
  · refine .inr ⟨?_, .inr (.inr (.inr (.inr (.inl ⟨hh, ha, rfl⟩))))⟩
    exact ha.imp (fun he => .inr (.inr (.inr (.inl ⟨hh, he⟩)))) (fun hto => ⟨hh, hto⟩)
  · exact .inr ⟨.inl (.inr (.inr (.inr (.inr ⟨hh, ha⟩)))),
      .inr (.inr (.inr (.inr (.inr (.inr (.inl ⟨hh, ha, rfl⟩))))))⟩

/-- An abort is raised by an internal operation, whose step makes no other transaction than `FileClose`, or by a
transaction that fails (R242 to R247). -/
theorem AbortCause.internal_or_fails (h : AbortCause s t) :
    (s.hs = .idle ∧ (s.todo = .hdrEncode ∨ (∃ chunk, s.todo = .dataSend chunk) ∨ ∃ r, s.todo = .resp r))
    ∨ TransactionFails s := by
  rcases h with ⟨-, hh, ⟨ht, -⟩ | ⟨chunk, ht, -⟩⟩ | ⟨-, hh, ht, -⟩ | ⟨-, hh, ⟨b, ht⟩, -⟩ | ⟨-, herr⟩ |
    ⟨-, -, hh, hto⟩
  · exact .inl ⟨hh, .inl ht⟩
  · exact .inl ⟨hh, .inr (.inl ⟨chunk, ht⟩)⟩
  · exact .inl ⟨hh, .inr (.inr ⟨_, ht⟩)⟩
  · exact .inl ⟨hh, .inr (.inr ⟨_, ht⟩)⟩
  · exact .inr (.inl herr)
  · exact .inr (.inr ⟨hh, hto⟩)

theorem BeforeAbort.fclosed_eq {st : Status} {u : State} (h : BeforeAbort s st u) : u.fclosed = s.fclosed := by
  obtain ⟨k, e, -, rfl⟩ := h.eq_kind_env
  rfl

/-- After a transaction that fails, the abort closes the file if it is open (R242). -/
theorem transactionStep_of_fails {st : Status} {u : State} (hb : s.phase.isBusy = true) (hu : BeforeAbort s st u)
    (hfail : TransactionFails s) (h : AtMostOneTransaction s s.env u.env) :
    TransactionStep s (raiseAbort st u) s.env (raiseAbort st u).env := by
  refine ⟨u.env, h, ?_⟩
  rw [raiseAbort_env, closeFile_env, hu.fclosed_eq]
  cases hf : s.fclosed with
  | true => exact .inl rfl
  | false => exact .inr ⟨hb, hfail, rfl, rfl, rfl⟩

theorem transactionStep_of_aborts {st : Status} {u : State} (hb : s.phase.isBusy = true) (hu : BeforeAbort s st u)
    (cause : AbortCause s (raiseAbort st u)) : TransactionStep s (raiseAbort st u) s.env (raiseAbort st u).env := by
  rcases hu.transaction with hsame | ⟨hfail, hone⟩
  · rcases cause.internal_or_fails with ⟨hh, hc⟩ | hfail
    · rw [raiseAbort_env, closeFile_env, hu.fclosed_eq, hsame, ← closeFile_env]
      exact .of_atMostOne (.close hh (.inr hc))
    · exact transactionStep_of_fails hb hu hfail (.inl hsame)
  · exact transactionStep_of_fails hb hu hfail hone

/-- A transaction that is held back uses up its draw (R23, R253). -/
theorem Held.transaction {u : State} (h : Held s u) : AtMostOneTransaction s s.env u.env := by
  rcases h with ⟨hp, hh, ht, -, rfl⟩ | ⟨hp, hh, ht, ha, rfl⟩ | ⟨hh, ha, rfl⟩
  · exact .fileSize hp hh ht
  · exact .inr (.inr (.inr (.inr (.inr (.inr (.inr (.inr (.inr (.inr (.inl ⟨hp, hh, ht, ha, rfl⟩))))))))))
  · exact .notWritten hh (by simp [ha])

/-- Which transaction each move of the core makes, at which control point (R14, R21, R62, R71). -/
theorem CoreMove.transactionStep (h : CoreMove s t) : TransactionStep s t s.env t.env := by
  cases h with
  | aborts hb hu cause => exact transactionStep_of_aborts hb hu cause
  | held hu => exact .of_atMostOne hu.transaction
  | measures hh ht hp ha hfit => exact .of_atMostOne (.fileSize hp hh ht)
  | readsNone hh ht hp ha => exact .of_atMostOne (.fileRead hp hh ht ha)
  | readsChunk hh ht hp hne ha => exact .of_atMostOne (.fileRead hp hh ht ha)
  | ends hh ht hp =>
    rw [finish_env]
    exact .of_atMostOne (.close hh (.inl ⟨hp, ht⟩))
  | @writes b hh hlt hb ha => exact .of_atMostOne (.inr (.inl ⟨hh, ha, b, hb, rfl⟩))
  | probes hh ha hg => exact .of_atMostOne (.read (.inl hh) ha)
  | cancels hh ha => exact .of_atMostOne (.read (.inl hh) ha)
  | retries hh ha hk hr => exact .of_atMostOne (.read (.inl hh) ha)
  | answers hh ha hr => exact .of_atMostOne (.read (.inl hh) ha)
  | cancelled hh ha => exact .of_atMostOne (.read (.inr hh) ha)
  | @probed o hh ha =>
    rw [pollTook_eq]
    exact .of_atMostOne (.inr (.inr (.inr (.inr (.inr (.inl ⟨hh, o, ha, rfl⟩))))))
  | _ => exact .of_atMostOne (.inl rfl)

/-- Sending begins only where a unit was built or a `NAK` is retried (R171, R180, R184). -/
theorem CoreMove.begins_tx (h : CoreMove s t) (hs : s.hs ≠ .tx) (ht : t.hs = .tx) :
    (s.hs = .idle ∧ (s.todo = .buildPacket ∨ s.todo = .eotSend)) ∨ (s.hs = .wait ∧ s.rxAnswer = .byte Config.nak) := by
  cases h with
  | builds hh htodo hm => exact .inl ⟨hh, .inl htodo⟩
  | beginsEot hh htodo => exact .inl ⟨hh, .inr htodo⟩
  | retries hh ha hk hr => exact .inr ⟨hh, ha⟩
  | waits => exact absurd ht hs
  | held hu => obtain ⟨e, -, rfl⟩ := hu.eq_env; exact absurd ht hs
  | aborts hb hu cause => rw [raiseAbort_hs] at ht; cases ht
  | writes hh | written hh => exact absurd hh hs
  | ends | probes | cancels | answers | cancelled | probed => cases ht
  | measures hh | readsNone hh | readsChunk hh | beginsFin hh | beginsHdr hh | loads hh | pads hh | acksHdr hh
  | acksData hh | rests hh => exact absurd (hh.symm.trans ht) nofun

/-! ### What a transaction does to the three byte streams -/

/-- The channel in both directions and the file, as the environment's transactions leave them; the draws, the schedule
and whether the file is open apart. -/
structure Streams where
  wire : List Byte
  rxQueue : List Byte
  rxTaken : List Byte
  fileReads : Nat
  cursor : Nat
  data : List Byte

/-- The streams of an environment. -/
def Env.streams (e : Env) : Streams where
  wire := e.wire
  rxQueue := e.rxQueue
  rxTaken := e.rxTaken
  fileReads := e.fileReads
  cursor := e.file.cursor
  data := e.file.data

/-- The `FileRead` that is next gives `n` bytes, none where it fails (R26, R62). -/
def FileReadGives (s : State) (n : Nat) : Prop :=
  (∃ c, s.readAnswer = .chunk c ∧ n = c.length) ∨ (s.readAnswer = .err ∧ n = 0)

/-- What one step of the core can do to the streams, each at its control point (R23 to R25, R62, R69, R71). -/
inductive StreamMove (s : State) (a : Streams) : Streams → Prop
  /-- no byte moves -/
  | kept : StreamMove s a a
  /-- the unit's next byte is written -/
  | wrote {b : Byte} (hh : s.hs = .tx) (hb : s.packetByte s.txidx.toNat = .ok b) :
      StreamMove s a { a with wire := a.wire ++ [b] }
  /-- the oldest byte of the RX queue is read -/
  | took {b : Byte} (hh : s.hs = .wait ∨ s.hs = .ca2 ∨ s.hs = .probe) (hq : a.rxQueue.head? = some b) :
      StreamMove s a { a with rxQueue := a.rxQueue.tail, rxTaken := a.rxTaken ++ [b] }
  /-- the file is read -/
  | readFile {n : Nat} (hp : s.phase = .dataLoop) (hh : s.hs = .idle) (ht : s.todo = .none) (hn : FileReadGives s n) :
      StreamMove s a { a with fileReads := a.fileReads + 1, cursor := a.cursor + n }

theorem fileClosed_streams (e : Env) : e.fileClosed.streams = e.streams := rfl

/-- A transaction moves bytes of one stream at most. -/
theorem AtMostOneTransaction.streamMove (hq : e.rxQueue = s.env.rxQueue) (h : AtMostOneTransaction s e f) :
    StreamMove s e.streams f.streams := by
  rcases h with rfl | ⟨hh, -, b, hb, rfl⟩ | ⟨-, -, rfl⟩ | ⟨hh, b, -, hhead, rfl⟩ | ⟨-, -, rfl⟩ | ⟨hh, o, ho, rfl⟩ |
    ⟨-, -, rfl⟩ | ⟨-, -, -, rfl⟩ | ⟨hp, hh, ht, c, hc, rfl⟩ | ⟨hp, hh, ht, herr, rfl⟩ | ⟨-, -, -, -, rfl⟩ |
    ⟨-, -, rfl, -⟩
  · exact .kept
  · exact .wrote hh hb
  · exact .kept
  · exact .took (hh.imp_right .inl) hhead
  · exact .kept
  · cases o with
    | none => exact .kept
    | some b =>
      have hhead : e.rxQueue.head? = some b := by rw [hq]; exact rxQueue_head_of_pollAnswer ho
      exact .took (.inr (.inr hh)) hhead
  · exact .kept
  · exact .kept
  · exact .readFile hp hh ht (.inl ⟨c, hc, rfl⟩)
  · exact .readFile hp hh ht (.inr ⟨herr, rfl⟩)
  · exact .kept
  · exact .kept

theorem TransactionStep.streamMove {g : Env} (hq : e.rxQueue = s.env.rxQueue) (h : TransactionStep s t e g) :
    StreamMove s e.streams g.streams := by
  obtain ⟨f, hone, rfl | ⟨-, -, -, -, rfl⟩⟩ := h
  · exact hone.streamMove hq
  · rw [fileClosed_streams]
    exact hone.streamMove hq

section

variable {a b : Streams}

theorem StreamMove.wire_eq (h : StreamMove s a b) :
    b.wire = a.wire ∨ (s.hs = .tx ∧ ∃ c, s.packetByte s.txidx.toNat = .ok c ∧ b.wire = a.wire ++ [c]) := by
  cases h with
  | wrote hh hb => exact .inr ⟨hh, _, hb, rfl⟩
  | _ => exact .inl rfl

theorem StreamMove.rx_eq (h : StreamMove s a b) :
    (b.rxQueue = a.rxQueue ∧ b.rxTaken = a.rxTaken)
    ∨ ((s.hs = .wait ∨ s.hs = .ca2 ∨ s.hs = .probe)
        ∧ ∃ c, a.rxQueue = c :: b.rxQueue ∧ b.rxTaken = a.rxTaken ++ [c]) := by
  cases h with
  | took hh hq => exact .inr ⟨hh, _, (List.cons_head?_tail hq).symm, rfl⟩
  | _ => exact .inl ⟨rfl, rfl⟩

theorem StreamMove.file_eq (h : StreamMove s a b) :
    (b.fileReads = a.fileReads ∧ b.cursor = a.cursor)
    ∨ (s.phase = .dataLoop ∧ s.hs = .idle ∧ s.todo = .none ∧ b.fileReads = a.fileReads + 1
        ∧ ((∃ c, s.readAnswer = .chunk c ∧ b.cursor = a.cursor + c.length)
          ∨ (s.readAnswer = .err ∧ b.cursor = a.cursor))) := by
  cases h with
  | readFile hp hh ht hn =>
    refine .inr ⟨hp, hh, ht, rfl, ?_⟩
    rcases hn with ⟨c, hc, rfl⟩ | ⟨herr, rfl⟩
    · exact .inl ⟨c, hc, rfl⟩
    · exact .inr ⟨herr, rfl⟩
  | _ => exact .inl ⟨rfl, rfl⟩

theorem StreamMove.data_eq (h : StreamMove s a b) : b.data = a.data := by
  cases h <;> rfl

end

/-! ### The core's turn -/

/-- In the core's turn a step that answers a next state is a move of the core, after the schedule's. -/
theorem coreMove_of_coreTurn (hc : CoreTurn s) (h : step s = .next t) : CoreMove s.moved t := by
  cases hr : s.reservedCode with
  | none =>
    rw [step_eq_coreStep hc hr] at h
    exact coreStep_move hr h
  | some f =>
    rw [step_coreTurn_reserved hc hr] at h
    cases h

end Sys2Proof.Machine

namespace Sys2Proof

open Machine

/-- Settles O49: the transaction of the core's move, one at most, says what becomes of the three streams; where sending
begins the move itself says. -/
theorem sendAndWaitAlternate : Obligations.SendAndWaitAlternate := by
  intro s t hc hstep
  have hm : CoreMove s.moved t := coreMove_of_coreTurn hc hstep
  have htrans : TransactionStep s t s.env.moveMade t.env := hm.transactionStep
  have hmove : StreamMove s s.env.streams t.env.streams := htrans.streamMove (s := s) (e := s.env.moveMade) rfl
  exact ⟨hmove.wire_eq, hmove.rx_eq, hmove.file_eq, hm.begins_tx, hmove.data_eq, htrans⟩

end Sys2Proof
end

section
/-!
SUPPORT. The statements of spec/30_encoding.md: the digits of a size (R87), the decoder's first bytes (R85, R91, R92),
and the strict reader, which accepts a well-formed unit's encoding and nothing else (R81 to R84).
-/

namespace Sys2Proof

variable {i : Instr} {f : WireFields} {bytes : List Byte}

/-! ### The fields each transmitted form admits -/

theorem wellFormed_eot_iff : f.wellFormed .eot = true ↔ f = ⟨0#8, []⟩ := by
  cases f
  simp [WireFields.wellFormed]

theorem wellFormed_pkt1024Data_iff : f.wellFormed .pkt1024Data = true ↔ f.payload.length = Config.bsData := by
  simp [WireFields.wellFormed]

theorem wellFormed_pkt128Hdr_iff :
    f.wellFormed .pkt128Hdr = true
      ↔ f.seq = 0#8 ∧ f.payload.length = Config.bsHdr ∧ f.payload.head? ≠ some 0#8 := by
  simp [WireFields.wellFormed, and_assoc]

theorem wellFormed_pkt128Fin_iff :
    f.wellFormed .pkt128Fin = true
      ↔ f.seq = 0#8 ∧ f.payload.length = Config.bsHdr ∧ f.payload.head? = some 0#8 := by
  simp [WireFields.wellFormed, and_assoc]

/-! ### The first bytes of a transmitted unit -/

/-- Only `SOH`, `STX` and `EOT` begin a transmitted unit (R85, R95). -/
theorem unitLength_eq_none {b : Byte} (hsoh : b ≠ Config.soh) (hstx : b ≠ Config.stx) (heot : b ≠ Config.eot) :
    unitLength b = none := by
  rw [unitLength, if_neg hsoh, if_neg hstx, if_neg heot]

/-- Bytes as many as their first one announces are identified by that one and by the one at offset 3 (R91). -/
theorem decodeTransmit_of_unitLength {b : Byte} {rest : List Byte} {n : Nat} (hb : unitLength b = some n)
    (hn : n ≤ rest.length + 1) : decodeTransmit (b :: rest) = transmittedForm b (rest.getD 2 0#8) := by
  simp [decodeTransmit, hb, Nat.not_lt.mpr hn]

/-- What the bytes a unit is decoded from begin with (R91). -/
theorem transmittedForm_of_decodeTransmit (h : decodeTransmit bytes = .ok i) :
    transmittedForm (bytes.getD 0 0#8) (bytes.getD 3 0#8) = .ok i := by
  cases bytes with
  | nil => cases h
  | cons b rest =>
    cases hb : unitLength b with
    | none => simp [decodeTransmit, hb] at h
    | some n =>
      by_cases hn : rest.length + 1 < n
      · simp [decodeTransmit, hb, hn] at h
      · rwa [decodeTransmit_of_unitLength hb (Nat.not_lt.mp hn)] at h

/-- The four transmitted forms, each by its mark; the two headers by the byte at offset 3 (R91). -/
theorem transmittedForm_cases {first third : Byte} (h : transmittedForm first third = .ok i) :
    (i = .eot ∧ first = Config.eot) ∨ (i = .pkt1024Data ∧ first = Config.stx)
      ∨ (i = .pkt128Hdr ∧ first = Config.soh ∧ third ≠ 0#8) ∨ (i = .pkt128Fin ∧ first = Config.soh ∧ third = 0#8) := by
  unfold transmittedForm at h
  split_ifs at h with heot hstx hsoh hthird <;> cases h
  · exact .inl ⟨rfl, heot⟩
  · exact .inr (.inl ⟨rfl, hstx⟩)
  · exact .inr (.inr (.inr ⟨rfl, hsoh, hthird⟩))
  · exact .inr (.inr (.inl ⟨rfl, hsoh, hthird⟩))

/-! ### Response bytes -/

theorem decodeResponse_of_rxOther_wellFormed {b : Byte} (h : (Instr.rxOther b).wellFormed = true) :
    decodeResponse b = .rxOther b := by
  obtain ⟨⟨hack, hca⟩, hnak⟩ : (b ≠ Config.ack ∧ b ≠ Config.ca) ∧ b ≠ Config.nak := by
    simpa [Instr.wellFormed] using h
  rw [decodeResponse, if_neg hack, if_neg hca, if_neg hnak]

/-! ### The strict reader of a packet -/

/-- A packet's own encoding passes every check of the reader, whatever its mark (R81, R83, R84). -/
theorem parsePacket_encodePacket {bs : Nat} (mark : Byte) (hlen : f.payload.length = bs)
    (hseq : bs = Config.bsHdr → f.seq = 0#8) : parsePacket bs (encodePacket mark f) = .ok f := by
  have hsize : (encodePacket mark f).length = bs + 5 := by rw [Laws.RowMatch.encodePacket_length, hlen]
  have hpayload : ((encodePacket mark f).drop 3).take bs = f.payload := by
    simp [encodePacket, packetBytes, seqEncode, ← hlen]
  have hcrc : (encodePacket mark f).drop (3 + bs) = Machine.crcField (Machine.crc16 f.payload Config.crcInitial) := by
    rw [← List.drop_drop]
    simp [encodePacket, packetBytes, seqEncode, ← hlen]
  have hseq' : (encodePacket mark f).getD 1 0#8 = f.seq := rfl
  have hinv : (encodePacket mark f).getD 2 0#8 = 0xFF#8 - f.seq := rfl
  simp only [parsePacket, hsize, hpayload, hcrc, hseq', hinv]
  simpa using hseq

/-- Bytes the reader accepts are the packet of the fields it reads, under some mark (R81, R83, R84). -/
theorem parsePacket_eq_ok {bs : Nat} (h : parsePacket bs bytes = .ok f) :
    f.payload.length = bs ∧ (bs = Config.bsHdr → f.seq = 0#8) ∧ ∃ mark, bytes = encodePacket mark f := by
  simp only [parsePacket, ne_eq, ite_not] at h
  split_ifs at h with hshort hlong hinv hcrc hhdr
  cases h
  have hlen : bytes.length = bs + 5 := by omega
  match bytes, hlen with
  | mark :: seq :: inv :: rest, hlen =>
    simp only [List.length_cons] at hlen
    have hinv : inv = 0xFF#8 - seq := hinv
    have hcrc : rest.drop bs = Machine.crcField (Machine.crc16 (rest.take bs) Config.crcInitial) := by
      simpa [Nat.add_comm 3 bs] using hcrc
    refine ⟨?_, fun hb => ?_, mark, ?_⟩
    · simp; omega
    · exact not_not.mp fun hs => hhdr ⟨hb, hs⟩
    · calc mark :: seq :: inv :: rest
          = mark :: seq :: inv :: (rest.take bs ++ rest.drop bs) := by rw [List.take_append_drop]
        _ = encodePacket mark ⟨seq, rest.take bs⟩ := by rw [hcrc, hinv]; rfl

/-! ### The strict reader of a unit -/

theorem parseUnit_of_eot (h : decodeTransmit bytes = .ok .eot) :
    parseUnit bytes = if bytes.length = 1 then .ok (.eot, ⟨0#8, []⟩) else .error .tooLong := by
  rw [parseUnit, h]

theorem parseUnit_of_data (h : decodeTransmit bytes = .ok .pkt1024Data) :
    parseUnit bytes = (parsePacket Config.bsData bytes).map fun f => (.pkt1024Data, f) := by
  rw [parseUnit, h]

theorem parseUnit_of_header (hi : i = .pkt128Hdr ∨ i = .pkt128Fin) (h : decodeTransmit bytes = .ok i) :
    parseUnit bytes = (parsePacket Config.bsHdr bytes).map fun f => (i, f) := by
  rcases hi with rfl | rfl <;> rw [parseUnit, h]

theorem eq_of_map_pair_eq_ok {r : Except DecodeError WireFields} {j : Instr}
    (h : (r.map fun f => (j, f)) = .ok (i, f)) : j = i ∧ r = .ok f := by
  cases r <;> cases h
  exact ⟨rfl, rfl⟩

/-- The packet a header form was read from: its mark, seq 0 and a payload of the header's block size (R86, R88). -/
theorem header_of_parsePacket {mark : Byte} (hmark : bytes.getD 0 0#8 = mark)
    (h : parsePacket Config.bsHdr bytes = .ok f) :
    f.seq = 0#8 ∧ f.payload.length = Config.bsHdr ∧ encodePacket mark f = bytes
      ∧ f.payload.head? = some (bytes.getD 3 0#8) := by
  obtain ⟨hlen, hseq, m, rfl⟩ := parsePacket_eq_ok h
  obtain rfl : m = mark := hmark
  obtain ⟨seq, payload⟩ := f
  cases payload with
  | nil => cases hlen
  | cons b payload => exact ⟨hseq rfl, hlen, rfl, rfl⟩

theorem parseUnit_encode (hi : i.readPoint = .transmit) (hf : f.wellFormed i = true) :
    parseUnit (encode f i) = .ok (i, f) := by
  have hd : decodeTransmit (encode f i) = .ok i := Machine.decode_transmit_encode hi hf
  cases i <;> cases hi
  case eot =>
    obtain rfl := wellFormed_eot_iff.mp hf
    rfl
  case pkt1024Data =>
    have hlen := wellFormed_pkt1024Data_iff.mp hf
    rw [parseUnit_of_data hd, encode, parsePacket_encodePacket _ hlen nofun]
    rfl
  case pkt128Hdr =>
    obtain ⟨hseq, hlen, -⟩ := wellFormed_pkt128Hdr_iff.mp hf
    rw [parseUnit_of_header (.inl rfl) hd, encode, parsePacket_encodePacket _ hlen fun _ => hseq]
    rfl
  case pkt128Fin =>
    obtain ⟨hseq, hlen, -⟩ := wellFormed_pkt128Fin_iff.mp hf
    rw [parseUnit_of_header (.inr rfl) hd, encode, parsePacket_encodePacket _ hlen fun _ => hseq]
    rfl

theorem encode_of_parseUnit (h : parseUnit bytes = .ok (i, f)) :
    i.readPoint = .transmit ∧ f.wellFormed i = true ∧ encode f i = bytes := by
  cases hd : decodeTransmit bytes with
  | error e => simp [parseUnit, hd] at h
  | ok j =>
    rcases transmittedForm_cases (transmittedForm_of_decodeTransmit hd) with
      ⟨rfl, hmark⟩ | ⟨rfl, hmark⟩ | ⟨rfl, hmark, hthird⟩ | ⟨rfl, hmark, hthird⟩
    · rw [parseUnit_of_eot hd] at h
      split at h <;> cases h
      next hone =>
        obtain ⟨b, rfl⟩ := List.length_eq_one_iff.mp hone
        obtain rfl : b = Config.eot := hmark
        exact ⟨rfl, rfl, rfl⟩
    · rw [parseUnit_of_data hd] at h
      obtain ⟨rfl, hp⟩ := eq_of_map_pair_eq_ok h
      obtain ⟨hlen, -, mark, rfl⟩ := parsePacket_eq_ok hp
      obtain rfl : mark = Config.stx := hmark
      exact ⟨rfl, wellFormed_pkt1024Data_iff.mpr hlen, rfl⟩
    · rw [parseUnit_of_header (.inl rfl) hd] at h
      obtain ⟨rfl, hp⟩ := eq_of_map_pair_eq_ok h
      obtain ⟨hseq, hlen, henc, hhead⟩ := header_of_parsePacket hmark hp
      exact ⟨rfl, wellFormed_pkt128Hdr_iff.mpr ⟨hseq, hlen, by simpa [hhead] using hthird⟩, henc⟩
    · rw [parseUnit_of_header (.inr rfl) hd] at h
      obtain ⟨rfl, hp⟩ := eq_of_map_pair_eq_ok h
      obtain ⟨hseq, hlen, henc, hhead⟩ := header_of_parsePacket hmark hp
      exact ⟨rfl, wellFormed_pkt128Fin_iff.mpr ⟨hseq, hlen, by rw [hhead, hthird]⟩, henc⟩

/-- The first byte of a transmitted form's encoding tells how many bytes there are (R85). -/
theorem encode_unitLength (hi : i.readPoint = .transmit) (hf : f.wellFormed i = true) :
    ∃ b rest, encode f i = b :: rest ∧ unitLength b = some (encode f i).length := by
  cases i <;> cases hi
  case eot => exact ⟨_, _, rfl, rfl⟩
  case pkt1024Data => exact ⟨_, _, rfl, by rw [(Laws.RowMatch.pkt1024Data f hf).1]; rfl⟩
  case pkt128Hdr => exact ⟨_, _, rfl, by rw [(Laws.RowMatch.pkt128Hdr f hf).1]; rfl⟩
  case pkt128Fin => exact ⟨_, _, rfl, by rw [(Laws.RowMatch.pkt128Fin f hf).1]; rfl⟩

namespace Machine

/-! ### The decimal digits of a size -/

theorem decDigits_zero (fuel : Nat) (acc : List Byte) : decDigits fuel 0 acc = acc := by
  cases fuel <;> rfl

theorem decDigits_succ {n : Nat} (fuel : Nat) (acc : List Byte) (h : n ≠ 0) :
    decDigits (fuel + 1) n acc = decDigits fuel (n / 10) (digitByte (n % 10) :: acc) := by
  rw [decDigits, if_neg h]

/-- The model's digit byte is the code of the library's digit character. -/
theorem digitByte_eq_digitChar {d : Nat} (h : d < 10) : digitByte d = BitVec.ofNat 8 d.digitChar.toNat := by
  rw [Nat.toNat_digitChar_of_lt_ten h, digitByte, BitVec.ofNat_add]

/-- With enough fuel the digits of a number that is not 0 are its base-10 digits (R87). -/
theorem decDigits_eq_toDigits : ∀ {fuel n : Nat}, n ≠ 0 → n ≤ fuel → ∀ acc : List Byte,
    decDigits fuel n acc = (Nat.toDigits 10 n).map (fun c => BitVec.ofNat 8 c.toNat) ++ acc
  | 0, n, h0, hn, _ => absurd (Nat.le_zero.mp hn) h0
  | fuel + 1, n, h0, hn, acc => by
    have hdigit := digitByte_eq_digitChar (Nat.mod_lt n (by omega : 10 > 0))
    rw [decDigits_succ fuel acc h0]
    by_cases hlast : n < 10
    case pos =>
      rw [Nat.div_eq_of_lt hlast, decDigits_zero, Nat.toDigits_of_lt_base hlast, hdigit, Nat.mod_eq_of_lt hlast]
      rfl
    case neg =>
      rw [decDigits_eq_toDigits (by omega) (by omega), Nat.toDigits_of_base_le (by omega) (Nat.not_lt.mp hlast), hdigit,
        List.map_append, List.append_assoc]
      rfl

theorem decEncode_eq_toDigits (size : Nat) :
    decEncode size = (Nat.toDigits 10 size).map (fun c => BitVec.ofNat 8 c.toNat) := by
  unfold decEncode
  split
  case isTrue h0 => rw [h0]; rfl
  case isFalse h0 => rw [decDigits_eq_toDigits h0 le_rfl, List.append_nil]

/-- The digit written last, in front of the others, is what is left of the number below 10, and that is not 0. -/
theorem decDigits_head?_ne_zero : ∀ {fuel n : Nat}, n ≠ 0 → n ≤ fuel → ∀ acc : List Byte,
    (decDigits fuel n acc).head? ≠ some 0x30#8
  | 0, n, h0, hn, _ => absurd (Nat.le_zero.mp hn) h0
  | fuel + 1, n, h0, hn, acc => by
    rw [decDigits_succ fuel acc h0]
    by_cases hlast : n / 10 = 0
    case pos =>
      rw [hlast, decDigits_zero]
      intro h
      have hzero : (digitByte (n % 10)).toNat = 0x30 := congrArg BitVec.toNat (Option.some.inj h)
      rw [digitByte_toNat (Nat.mod_lt n (by omega))] at hzero
      omega
    case neg => exact decDigits_head?_ne_zero hlast (by omega) _

/-- No leading zero unless the number is 0 (R87). -/
theorem decEncode_head?_ne_zero {size : Nat} (h : size ≠ 0) : (decEncode size).head? ≠ some 0x30#8 := by
  rw [decEncode, if_neg h]
  exact decDigits_head?_ne_zero h le_rfl []

end Machine

/-! ### The obligations -/

/-- Settles O8, by the point where the instruction's bytes are read: a transmitted form is told by its first bytes, a
response by its byte. -/
theorem decodeEncodeAgree : Obligations.DecodeEncodeAgree := by
  intro i f hw hf
  cases i with
  | pkt128Hdr | pkt1024Data | eot | pkt128Fin => exact Machine.decode_transmit_encode rfl hf
  | rxOther b => exact congrArg Except.ok (decodeResponse_of_rxOther_wellFormed hw)
  | rxExtraAny o => cases o <;> rfl
  | rxAck | rxCa | rxNak | rxCa2Any _ | hostStart => rfl

/-- Settles O9: the encoding decodes to its form, and passes every check of that form's reader. -/
theorem transmittedUnitRoundTrip : Obligations.TransmittedUnitRoundTrip :=
  fun _ _ hi hf => parseUnit_encode hi hf

/-- Settles O10, by the form that the first bytes decode to: what the reader checks fixes every byte it does not
return. -/
theorem parsedUnitIsItsEncoding : Obligations.ParsedUnitIsItsEncoding :=
  fun _ _ _ h => encode_of_parseUnit h

/-- Settles O11: each form's length is the one its mark tells. -/
theorem firstByteTellsLength : Obligations.FirstByteTellsLength :=
  ⟨fun _ _ hi hf => encode_unitLength hi hf, rfl, rfl, rfl, fun _ hsoh hstx heot => unitLength_eq_none hsoh hstx heot⟩

/-- Settles O12: the digits are the library's, so there is at least one; `2 ^ 32 < 10 ^ 10` bounds their number. -/
theorem decimalSizeDigits : Obligations.DecimalSizeDigits := by
  intro size
  have hdigits := Machine.decEncode_eq_toDigits size
  refine ⟨hdigits, Machine.decEncode_head?_ne_zero, ?_, fun h => Machine.decEncode_length_le (by omega) (by omega)⟩
  rw [hdigits, List.length_map]
  exact Nat.length_toDigits_pos

/-- Settles O14: the classes are tried in R92's order, and what none of them takes is a well-formed `RX_OTHER`; the
other two read points take any byte. -/
theorem receivedBytesDecode : Obligations.ReceivedBytesDecode :=
  ⟨fun _ => rfl, fun _ => Machine.decode_response_wellFormed rfl, fun _ => rfl, fun _ => rfl, rfl⟩

/-- A closing header has the 133 bytes its mark announces, and NUL at offset 3 (R85, R91). -/
theorem decode_closingHeader {rest : List Byte} (hlen : rest.length = 132) (hthird : rest.getD 2 0#8 = 0#8) :
    decode .transmit (0x01#8 :: rest) = .ok .pkt128Fin := by
  rw [decode, decodeTransmit_of_unitLength (n := 133) rfl (by rw [hlen]), hthird]
  rfl

/-- Settles O15: the closing header is told by its mark, its length and the byte at offset 3; the other words are one
byte. -/
theorem specWordsDecode : Obligations.SpecWordsDecode := by
  refine ⟨rfl, ?_, rfl, rfl, rfl⟩
  simp only [List.cons_append, List.nil_append]
  exact decode_closingHeader (by simp) rfl

end Sys2Proof
end

