-- ==== Sys2Proof/Proofs/Crc.lean ====
section
/-!
SUPPORT. The statements of spec/40_crc.md: the rounds of the bit-serial division are additive and injective, and one
table step is eight of them (R121, R124, R126); the operations on the register `CRC` (R125).
-/

namespace Sys2Proof.Machine

/-! ### One round of the bit-serial division -/

/-- One round of the bit-serial division by `POLY` (R121). -/
def crcRound (c : U16) : U16 := if c.getLsbD 15 then (c <<< 1) ^^^ Config.poly else c <<< 1

theorem crcRound_of_top {c : U16} (h : c.getLsbD 15 = true) : crcRound c = (c <<< 1) ^^^ Config.poly := if_pos h

theorem crcRound_of_not_top {c : U16} (h : c.getLsbD 15 = false) : crcRound c = c <<< 1 :=
  if_neg (by rw [h]; exact Bool.false_ne_true)

/-- A round is additive: the sum's top bit is set where exactly one of the two is, and where both are, `POLY` cancels
with itself. -/
theorem crcRound_xor (c d : U16) : crcRound (c ^^^ d) = crcRound c ^^^ crcRound d := by
  have htop : (c ^^^ d).getLsbD 15 = (c.getLsbD 15 ^^ d.getLsbD 15) := BitVec.getLsbD_xor
  cases hc : c.getLsbD 15 <;> cases hd : d.getLsbD 15 <;> rw [hc, hd] at htop
  case false.false =>
    rw [crcRound_of_not_top htop, crcRound_of_not_top hc, crcRound_of_not_top hd, BitVec.shiftLeft_xor_distrib]
  case false.true =>
    rw [crcRound_of_top htop, crcRound_of_not_top hc, crcRound_of_top hd, BitVec.shiftLeft_xor_distrib,
      BitVec.xor_assoc]
  case true.false =>
    rw [crcRound_of_top htop, crcRound_of_top hc, crcRound_of_not_top hd, BitVec.shiftLeft_xor_distrib]
    ac_rfl
  case true.true =>
    rw [crcRound_of_not_top htop, crcRound_of_top hc, crcRound_of_top hd, BitVec.shiftLeft_xor_distrib]
    calc c <<< 1 ^^^ d <<< 1
        = c <<< 1 ^^^ d <<< 1 ^^^ (Config.poly ^^^ Config.poly) := by rw [BitVec.xor_self, BitVec.xor_zero]
      _ = (c <<< 1 ^^^ Config.poly) ^^^ (d <<< 1 ^^^ Config.poly) := by ac_rfl

/-- `POLY` is odd, so a round keeps the bit it shifts out as the lowest bit of what it gives. -/
theorem crcRound_getLsbD_zero (c : U16) : (crcRound c).getLsbD 0 = c.getLsbD 15 := by
  cases hc : c.getLsbD 15 with
  | true => simp [crcRound_of_top hc, Config.poly]
  | false => simp [crcRound_of_not_top hc]

/-- A shift by one loses the top bit only. -/
theorem eq_of_shiftLeft_one_eq {c d : U16} (htop : c.getLsbD 15 = d.getLsbD 15) (h : c <<< 1 = d <<< 1) : c = d := by
  ext i hi
  obtain rfl | hlow : i = 15 ∨ i < 15 := by omega
  · exact htop
  · have hnext : i + 1 < 16 := by omega
    simpa [hnext] using congrArg (·.getLsbD (i + 1)) h

theorem crcRound_injective : Function.Injective crcRound := by
  intro c d h
  have htop : c.getLsbD 15 = d.getLsbD 15 := by rw [← crcRound_getLsbD_zero, h, crcRound_getLsbD_zero]
  refine eq_of_shiftLeft_one_eq htop ?_
  cases hd : d.getLsbD 15 with
  | true =>
    rw [crcRound_of_top (htop.trans hd), crcRound_of_top hd] at h
    exact (BitVec.xor_left_inj _).mp h
  | false => rwa [crcRound_of_not_top (htop.trans hd), crcRound_of_not_top hd] at h

/-! ### Several rounds -/

theorem crcShift_eq_iterate (n : Nat) : crcShift n = crcRound^[n] := by
  induction n with
  | zero => rfl
  | succ n ih =>
    funext c
    exact congrFun ih (crcRound c)

theorem crcShift_xor (n : Nat) (c d : U16) : crcShift n (c ^^^ d) = crcShift n c ^^^ crcShift n d := by
  rw [crcShift_eq_iterate]
  exact Function.Semiconj₂.iterate crcRound_xor n c d

theorem crcShift_injective (n : Nat) : Function.Injective (crcShift n) := by
  rw [crcShift_eq_iterate]
  exact crcRound_injective.iterate n

/-- Rounds that shift out zeros only are a plain shift. -/
theorem crcShift_eq_shiftLeft {n : Nat} {c : U16} (h : c.toNat * 2 ^ n < 2 ^ 16) : crcShift n c = c <<< n := by
  induction n generalizing c with
  | zero => exact (BitVec.shiftLeft_zero c).symm
  | succ n ih =>
    have hdouble : c.toNat * 2 * 2 ^ n < 2 ^ 16 := by rwa [Nat.mul_assoc, ← Nat.pow_succ']
    have hsmall : c.toNat * 2 < 2 ^ 16 := lt_of_le_of_lt (Nat.le_mul_of_pos_right _ (Nat.two_pow_pos n)) hdouble
    have hshift : (c <<< 1).toNat = c.toNat * 2 := by
      rw [BitVec.toNat_shiftLeft, Nat.shiftLeft_eq, Nat.pow_one, Nat.mod_eq_of_lt hsmall]
    have htop : c.getLsbD 15 = false := Nat.testBit_lt_two_pow (by omega)
    calc crcShift (n + 1) c
        = crcShift n (crcRound c) := rfl
      _ = crcShift n (c <<< 1) := by rw [crcRound_of_not_top htop]
      _ = c <<< 1 <<< n := ih (by rwa [hshift])
      _ = c <<< (n + 1) := by rw [← BitVec.shiftLeft_add, Nat.add_comm]

/-! ### One step of the accumulator -/

/-- The table's 256 entries are the generator's values (R121, R122). -/
theorem crcTable_eq_tablegen : ∀ i : Byte, crcTable i = tablegen i := by decide +kernel

/-- The high byte takes the input byte; the low byte waits below it (R124, R126). -/
theorem xor_byte_eq_index_xor_low (c : U16) (b : Byte) :
    c ^^^ (b.setWidth 16 <<< 8) = ((hiByte c ^^^ b).setWidth 16 <<< 8) ^^^ (loByte c).setWidth 16 := by
  ext i hi
  by_cases h : i < 8
  · simp [hiByte, loByte, h, BitVec.getLsbD_eq_getElem hi]
  · have hhigh : i - 8 < 8 ∧ 8 + (i - 8) = i := by omega
    simp [hiByte, loByte, h, hhigh, BitVec.getLsbD_eq_getElem hi]

theorem loByte_shiftLeft (c : U16) : (loByte c).setWidth 16 <<< 8 = c <<< 8 := by
  ext i hi
  by_cases h : i < 8
  · simp [h]
  · have hhigh : i - 8 < 8 := by omega
    simp [loByte, h, hhigh, BitVec.getLsbD_eq_getElem (show i - 8 < 16 by omega)]

/-- One table step is the byte taken into the accumulator's high end and eight rounds (R124, R126): the rounds of the
index are its table entry, and those of the low byte shift it to the high end. -/
theorem crcNext_eq_crcShift (c : U16) (b : Byte) : crcNext c b = crcShift 8 (c ^^^ (b.setWidth 16 <<< 8)) := by
  have hlow : crcShift 8 ((loByte c).setWidth 16) = c <<< 8 := by
    rw [crcShift_eq_shiftLeft (by rw [BitVec.toNat_setWidth_of_le (by decide)]; omega), loByte_shiftLeft]
  calc crcNext c b
      = c <<< 8 ^^^ tablegen (hiByte c ^^^ b) := by rw [crcNext, crcTable_eq_tablegen]
    _ = tablegen (hiByte c ^^^ b) ^^^ crcShift 8 ((loByte c).setWidth 16) := by rw [hlow, BitVec.xor_comm]
    _ = crcShift 8 (c ^^^ (b.setWidth 16 <<< 8)) := by rw [xor_byte_eq_index_xor_low, crcShift_xor, tablegen]

theorem crcNext_injective (b : Byte) : Function.Injective fun c : U16 => crcNext c b := by
  intro c d h
  simp only [crcNext_eq_crcShift] at h
  exact (BitVec.xor_left_inj _).mp (crcShift_injective 8 h)

/-! ### Byte strings and the register `CRC` -/

/-- A byte that leaves the accumulator as it is does so however often it comes. -/
theorem crc16_replicate_of_fixed {c : U16} {b : Byte} (h : crcNext c b = c) (n : Nat) :
    crc16 (List.replicate n b) c = c := by
  induction n with
  | zero => rfl
  | succ n ih =>
    calc crc16 (List.replicate (n + 1) b) c
        = crc16 (List.replicate n b) (crcNext c b) := rfl
      _ = c := by rw [h, ih]

/-- A step on the register that has just been set is the register set to the step's value. -/
theorem crcStep_crcInit (b : Byte) (c : U16) (s : State) : crcStep b (crcInit c s) = crcInit (crcNext c b) s := rfl

/-- The steps on the register `CRC` compute `CRC16` in it and touch nothing else (R125). -/
theorem foldl_crcStep_crcInit (data : List Byte) (initial : U16) (s : State) :
    data.foldl (fun u b => crcStep b u) (crcInit initial s) = runCrc16 data initial s := by
  induction data generalizing initial with
  | nil => rfl
  | cons b data ih =>
    calc (b :: data).foldl (fun u b => crcStep b u) (crcInit initial s)
        = data.foldl (fun u b => crcStep b u) (crcInit (crcNext initial b) s) := by
          rw [List.foldl_cons, crcStep_crcInit]
      _ = runCrc16 data (crcNext initial b) s := ih (crcNext initial b)
      _ = runCrc16 (b :: data) initial s := rfl

end Sys2Proof.Machine

/-! ### The obligations -/

namespace Sys2Proof

open Machine

/-- Settles O3. -/
theorem crcTableGenerated : Obligations.CrcTableGenerated := crcTable_eq_tablegen

/-- Settles O4: both forms fold one step over the bytes, and the two steps are the same function. -/
theorem crcEqualsBitSerial : Obligations.CrcEqualsBitSerial := by
  intro data initial
  have hstep : crcNext = fun (c : U16) (b : Byte) => crcShift 8 (c ^^^ (b.setWidth 16 <<< 8)) :=
    funext₂ crcNext_eq_crcShift
  rw [crc16, crcBitwise, hstep]

/-- Settles O5: a step is injective because its rounds are, and the accumulator has finitely many values. -/
theorem crcStepBijective : Obligations.CrcStepBijective :=
  fun b => Finite.injective_iff_bijective.mp (crcNext_injective b)

/-- Settles O6, by induction on the byte string for the steps on the register. -/
theorem crcRunsItsSteps : Obligations.CrcRunsItsSteps := by
  refine ⟨fun data initial s => ⟨(foldl_crcStep_crcInit data initial s).symm, rfl⟩, fun _ => rfl, ?_⟩
  decide +kernel

/-- Settles O7: 0 is a fixed point of a step on a zero byte; the two blocks of pad bytes are computed. -/
theorem crcOfConstantBlocks : Obligations.CrcOfConstantBlocks := by
  refine ⟨crc16_replicate_of_fixed (by decide), ?_, ?_⟩ <;> decide +kernel

end Sys2Proof
end

