-- ==== Sys2Proof/Proofs/Framer.lean ====
section
/-!
SUPPORT. The statements of spec/41_framer.md: `PacketByte` gives the current unit's byte string one byte at a time
(R149), so `SEND` writes that string (R171), and a retry writes it once more, because nothing the unit is read from
has changed (R152, R180).
-/

namespace Sys2Proof.Machine

variable {s : State} {bytes : List Byte}

/-! ### The current unit as bytes -/

/-- What the current unit is: the one byte `EOT`, or the packet of the payload in `PBUF` (R81, R149). -/
theorem unitBytes_eq_some_iff :
    s.unitBytes = some bytes ↔ (s.kind = .eot ∧ bytes = [Config.eot])
      ∨ (s.kind ≠ .eot ∧ ∃ payload, memRead s.pbuf 0 s.blockSize = some payload
          ∧ bytes = packetBytes s.mark s.seq payload s.crc) := by
  unfold State.unitBytes
  by_cases hk : s.kind = .eot <;> simp [hk, eq_comm (a := bytes)]

theorem packetByte_eot (hk : s.kind = .eot) (i : Nat) : s.packetByte i = .ok Config.eot := if_pos hk

/-- The bytes before the payload, by index (R82, R83, R149). -/
theorem packetByte_front (hk : s.kind ≠ .eot) :
    s.packetByte 0 = .ok s.mark ∧ s.packetByte 1 = .ok s.seq ∧ s.packetByte 2 = .ok (0xFF#8 - s.seq) := by
  simp [State.packetByte, hk]

/-- The payload's byte `k` (R149, R36). -/
theorem packetByte_payload {k : Nat} {b : Byte} (hk : s.kind ≠ .eot) (hlt : k < s.blockSize)
    (hb : memByte s.pbuf k = some b) : s.packetByte (k + 3) = .ok b := by
  have hin : k + 3 < 3 + s.blockSize := by omega
  simp [State.packetByte, State.payloadByte, hk, hin, Nat.not_le.mpr hlt, hb]

/-- The two bytes after the payload (R64, R149). -/
theorem packetByte_crc (hk : s.kind ≠ .eot) :
    s.packetByte (s.blockSize + 3) = .ok (hiByte s.crc) ∧ s.packetByte (s.blockSize + 4) = .ok (loByte s.crc) := by
  simp [State.packetByte, hk, Nat.add_comm 3, Nat.add_comm 4]

/-- A packet's payload has the bytes of the block, and as many (R36, R81). -/
theorem memByte_of_payload {payload : List Byte} (hwf : s.pbuf.wf = true)
    (hm : memRead s.pbuf 0 s.blockSize = some payload) :
    payload.length = s.blockSize ∧ ∀ k, k < s.blockSize → memByte s.pbuf k = payload[k]? := by
  simpa using memByte_of_memRead hwf hm

theorem packetByte_of_packetBytes {payload : List Byte} (hk : s.kind ≠ .eot) (hwf : s.pbuf.wf = true)
    (hm : memRead s.pbuf 0 s.blockSize = some payload) {i : Nat} {b : Byte}
    (hb : (packetBytes s.mark s.seq payload s.crc)[i]? = some b) : s.packetByte i = .ok b := by
  obtain ⟨hlen, hbyte⟩ := memByte_of_payload hwf hm
  obtain ⟨hmark, hseq, hinverse⟩ := packetByte_front hk
  obtain ⟨hhi, hlo⟩ := packetByte_crc hk
  match i with
  | 0 => cases hb; exact hmark
  | 1 => cases hb; exact hseq
  | 2 => cases hb; exact hinverse
  | k + 3 =>
    have hrest : (payload ++ crcField s.crc)[k]? = some b := hb
    by_cases hlt : k < s.blockSize
    · rw [List.getElem?_append_left (hlen ▸ hlt)] at hrest
      exact packetByte_payload hk hlt ((hbyte k hlt).trans hrest)
    · obtain ⟨j, rfl⟩ := Nat.exists_eq_add_of_le (Nat.not_lt.mp hlt)
      rw [List.getElem?_append_right (by omega), hlen, Nat.add_sub_cancel_left] at hrest
      match j with
      | 0 => cases hrest; exact hhi
      | 1 => cases hrest; exact hlo

/-- `PacketByte(i)` is byte `i` of the current unit (R149, R81). -/
theorem packetByte_of_unitBytes (hwf : s.pbuf.wf = true) (hu : s.unitBytes = some bytes) {i : Nat} {b : Byte}
    (hb : bytes[i]? = some b) : s.packetByte i = .ok b := by
  rcases unitBytes_eq_some_iff.mp hu with ⟨hk, rfl⟩ | ⟨hk, payload, hm, rfl⟩
  · have hmem : b ∈ [Config.eot] := List.mem_of_getElem? hb
    rw [List.mem_singleton.mp hmem]
    exact packetByte_eot hk i
  · exact packetByte_of_packetBytes hk hwf hm hb

/-- `PKTLEN` where the registers describe the unit that the phase sends (R148, R151). -/
theorem pktlen_of_unitFits (h : s.unitFits = true) :
    (s.kind = .eot ∧ s.pktlen.toNat = 1) ∨ (s.kind ≠ .eot ∧ s.pktlen.toNat = s.blockSize + 5) := by
  unfold State.unitFits at h
  split at h <;> simp_all

/-- Where the registers describe the unit, `PKTLEN` is the number of its bytes (R37, R148, R151). -/
theorem unitBytes_length (hwf : s.pbuf.wf = true) (hfits : s.unitFits = true) (hu : s.unitBytes = some bytes) :
    s.pktlen.toNat = bytes.length := by
  rcases pktlen_of_unitFits hfits with ⟨hk, hlen⟩ | ⟨hk, hlen⟩ <;>
    rcases unitBytes_eq_some_iff.mp hu with ⟨hk', rfl⟩ | ⟨hk', payload, hm, rfl⟩
  · exact hlen
  · exact absurd hk hk'
  · exact absurd hk' hk
  · rw [hlen, ← (memByte_of_payload hwf hm).1]
    simp [packetBytes, seqEncode, crcField]

theorem unitBytes_ne_nil (hu : s.unitBytes = some bytes) : bytes ≠ [] := by
  rcases unitBytes_eq_some_iff.mp hu with ⟨-, rfl⟩ | ⟨-, payload, -, rfl⟩ <;> simp [packetBytes]

/-! ### A whole unit is sent -/

/-- With no move scheduled a step is the core's own. -/
theorem step_of_sched_nil (h : s.env.sched = []) (hr : s.reservedCode = none) : step s = coreStep s := by
  rw [step_coreTurn (.inl h) hr, turn, if_pos h]

/-- While a unit is on its way, a step is one turn of `SEND` (R171). -/
theorem step_tx (hs : BusyAt s .tx) (h : s.env.sched = []) : step s = sendByte s := by
  have hr := reservedCode_of_busyAt hs rfl
  rw [step_of_sched_nil h hr, coreStep_tx hs.1 hs.2.1 hr]

/-- An accepted `TxWrite` in a turn of `SEND` (R171, R23). -/
theorem sendByte_accept {b : Byte} (hlt : s.txidx < s.pktlen) (hb : s.packetByte s.txidx.toNat = .ok b)
    (ha : s.txAnswer = .accept) : sendByte s = .next (byteSent (s.txWritten b)) := by
  simp only [sendByte, if_pos hlt, hb, ha]

/-- `rest`, the bytes of the unit that were still to come, are on the wire, each accepted, and the response is awaited
(R171). -/
def unitSent (rest : List Byte) (s : State) : State :=
  { s with
    txidx := s.pktlen
    hs := .wait
    env := { s.env with wire := s.env.wire ++ rest, txDraws := s.env.txDraws.drop rest.length } }

/-- After its last byte the unit is sent (R171, R184). -/
theorem byteSent_last {b : Byte} (h : s.txidx + 1#11 = s.pktlen) : byteSent (s.txWritten b) = unitSent [b] s := by
  simp [byteSent, unitSent, h]

/-- Before the last byte the same unit stays on its way (R171). -/
theorem byteSent_more {b : Byte} (h : s.txidx + 1#11 < s.pktlen) :
    byteSent (s.txWritten b) = { s.txWritten b with txidx := s.txidx + 1#11, hs := .tx } := by
  simp [byteSent, h]

/-- The first byte and then the rest are the whole (R171). -/
theorem unitSent_cons (b : Byte) (rest : List Byte) (i : BitVec 11) (s : State) :
    unitSent rest { s.txWritten b with txidx := i, hs := .tx } = unitSent (b :: rest) s := by
  simp [unitSent]

theorem txAnswer_of_accepts {n : Nat} (h : ∀ d ∈ s.env.txDraws.take (n + 1), d = .accept) : s.txAnswer = .accept := by
  unfold State.txAnswer
  cases hd : s.env.txDraws with
  | nil => rfl
  | cons d ds => exact h d (by simp [hd])

theorem accepts_tail {n : Nat} {l : List TxDraw} (h : ∀ d ∈ l.take (n + 1), d = .accept) :
    ∀ d ∈ l.tail.take n, d = .accept := by
  cases l with
  | nil => simp
  | cons d ds => exact fun e he => h e (List.mem_cons_of_mem d he)

/-- From any byte of a unit on, one step for each byte that is to come writes it, where the channel accepts them all
(R171, R149). -/
theorem stepsFrom_unitSent {rest : List Byte} (hne : rest ≠ []) (hs : BusyAt s .tx) (hsched : s.env.sched = [])
    (hlen : s.txidx.toNat + rest.length = s.pktlen.toNat)
    (hbyte : ∀ k b, rest[k]? = some b → s.packetByte (s.txidx.toNat + k) = .ok b)
    (hacc : ∀ d ∈ s.env.txDraws.take rest.length, d = .accept) :
    stepsFrom rest.length s = .next (unitSent rest s) := by
  induction rest generalizing s with
  | nil => exact absurd rfl hne
  | cons b rest ih =>
    rw [List.length_cons] at hlen
    have hlt : s.txidx < s.pktlen := by bv_omega
    have hstep : step s = .next (byteSent (s.txWritten b)) :=
      (step_tx hs hsched).trans (sendByte_accept hlt (hbyte 0 b rfl) (txAnswer_of_accepts hacc))
    rw [List.length_cons, stepsFrom_succ hstep]
    by_cases hlast : rest = []
    · subst hlast
      rw [byteSent_last (by rw [List.length_nil] at hlen; bv_omega)]
      rfl
    · have hpos : 0 < rest.length := List.length_pos_iff.mpr hlast
      have hnext : (s.txidx + 1#11).toNat = s.txidx.toNat + 1 := by bv_omega
      rw [byteSent_more (by bv_omega), ← unitSent_cons b rest (s.txidx + 1#11) s]
      refine ih (s := { s.txWritten b with txidx := s.txidx + 1#11, hs := .tx }) hlast ⟨hs.1, rfl, hs.2.2⟩ hsched ?_
        (fun k c hc => ?_) (accepts_tail hacc)
      · show (s.txidx + 1#11).toNat + rest.length = s.pktlen.toNat
        omega
      · show s.packetByte ((s.txidx + 1#11).toNat + k) = .ok c
        rw [hnext, Nat.add_assoc, Nat.add_comm 1]
        exact hbyte (k + 1) c hc

/-- `SEND` from its first byte on writes the unit, one byte a step (R171, R149). -/
theorem stepsFrom_send (hs : BusyAt s .tx) (hwf : s.pbuf.wf = true) (hsched : s.env.sched = [])
    (hu : s.unitBytes = some bytes) (hidx : s.txidx = 0#11) (hlen : s.pktlen.toNat = bytes.length)
    (hacc : ∀ d ∈ s.env.txDraws.take bytes.length, d = .accept) :
    stepsFrom bytes.length s = .next (unitSent bytes s) := by
  have hzero : s.txidx.toNat = 0 := by rw [hidx]; rfl
  refine stepsFrom_unitSent (unitBytes_ne_nil hu) hs hsched (by omega) (fun k b hb => ?_) hacc
  rw [hzero, Nat.zero_add]
  exact packetByte_of_unitBytes hwf hu hb

/-! ### A retry -/

/-- A `NAK` was read with a retry left, and `SEND` begins again at the unit's first byte (R179, R180). -/
def retried (s : State) : State := beginSend false { awaited Config.nak s with retry := s.retry + 1 }

/-- One step reads the `NAK`, decides the retry and begins `SEND` (R172, R179, R180). -/
theorem step_retried (hs : BusyAt s .wait) (hsched : s.env.sched = []) (ha : s.rxAnswer = .byte Config.nak)
    (hk : s.kind ≠ .fin) (hr : s.retry < s.params.maxRetries) : step s = .next (retried s) := by
  have hexec : coreStep s = exec .rxNak s := by
    rw [coreStep, coreFetch_wait hs.1 hs.2.1, fetchRead_byte ha rfl]
    rfl
  rw [step_of_sched_nil hsched (reservedCode_of_busyAt hs rfl), hexec,
    exec_of_busyAt (i := .rxNak) hs rfl ⟨hs.1, hs.2.1, ha⟩, meaning, if_pos ⟨hk, hr⟩, retried]

/-- A retry changes nothing that the unit is read from (R152). -/
theorem retried_unitBytes : (retried s).unitBytes = s.unitBytes := rfl

end Sys2Proof.Machine

/-! ### The obligations -/

namespace Sys2Proof

open Machine

/-- Settles O17. -/
theorem packetByteReadsUnit : Obligations.PacketByteReadsUnit :=
  fun _ _ hwf hu _ _ => packetByte_of_unitBytes hwf hu

/-- Settles O57: one step begins `SEND` again with the same unit, which `PKTLEN` more steps write; the unit had been
sent before, so `TXIDX` and `HS` come back to what they were. -/
theorem retrySendsSameBytes : Obligations.RetrySendsSameBytes := by
  intro s bytes hinv hb hh hsched ha hk hr hu hacc
  obtain ⟨-, hfits, hidx⟩ := (hsFits_wait hh).mp hinv.hsFits
  have hstatus : s.status ≠ .reserved7 := by rw [(hinv.busy hb).1]; exact nofun
  have hlen := unitBytes_length hinv.pbufWf hfits hu
  have hbegin : step s = .next (retried s) := step_retried ⟨hb, hh, hstatus⟩ hsched ha hk hr
  have hsend : stepsFrom bytes.length (retried s) = .next (unitSent bytes (retried s)) :=
    stepsFrom_send (s := retried s) ⟨hb, rfl, hstatus⟩ hinv.pbufWf hsched (retried_unitBytes.trans hu) rfl hlen hacc
  rw [Nat.add_comm, stepsFrom_succ hbegin, hsend, hh, hidx]
  rfl

end Sys2Proof
end

section
/-!
SUPPORT. The statements of spec/42_handshake.md: one turn of `SEND` and the whole unit (R171), the response bytes that
the handshake unit keeps to itself (R175, R178, R180), the gate (R177), the table of `HS` by the cases of `CoreMove`
(R184), and who writes `LAST_RESP` (R183).
-/

namespace Sys2Proof.Machine

variable {s t : State}

/-! ### One turn of `SEND`, and the gate -/

/-- After an accepted byte only `TXIDX`, `HS` and the channel have changed (R171, R23). -/
theorem byteSent_txWritten (b : Byte) (hlt : s.txidx < s.pktlen) :
    byteSent (s.txWritten b) = { s with
      txidx := s.txidx + 1#11
      hs := if s.txidx.toNat + 1 < s.pktlen.toNat then .tx else .wait
      env := s.env.afterWrite b } := by
  have hlast : s.txidx + 1#11 < s.pktlen ↔ s.txidx.toNat + 1 < s.pktlen.toNat := by bv_omega
  simp only [← hlast]
  rfl

theorem gate_iff :
    s.gate = true ↔ s.kind ≠ .eot ∧ ((s.params.extraAckGate = .seqZero ∧ s.seq = 0#8)
      ∨ (s.params.extraAckGate = .firstPacketOnly ∧ s.kind = .hdr)) := by
  unfold State.gate
  by_cases hk : s.kind = .eot
  · simp [hk]
  · cases hg : s.params.extraAckGate <;> simp [hk]

/-! ### The rows of R184, by name -/

/-- `SEND` begins (R180). -/
theorem HsMove.begins (hs : s.hs = .idle) (ht : t.hs = .tx) (h : s.todo = .buildPacket ∨ s.todo = .eotSend) :
    HsMove s t := .inl ⟨hs, ht, h⟩

/-- The last byte was written (R171). -/
theorem HsMove.sent (hs : s.hs = .tx) (ht : t.hs = .wait) (h : s.pktlen.toNat ≤ s.txidx.toNat + 1) : HsMove s t :=
  .inr (.inl ⟨hs, ht, h⟩)

/-- An `ACK` with the gate open (R175). -/
theorem HsMove.polls (hs : s.hs = .wait) (ht : t.hs = .probe) (ha : s.rxAnswer = .byte Config.ack)
    (hg : s.gate = true) : HsMove s t := .inr (.inr (.inl ⟨hs, ht, ha, hg⟩))

/-- A `CA` (R178). -/
theorem HsMove.cancels (hs : s.hs = .wait) (ht : t.hs = .ca2) (ha : s.rxAnswer = .byte Config.ca) : HsMove s t :=
  .inr (.inr (.inr (.inl ⟨hs, ht, ha⟩)))

/-- A `NAK` that is retried (R180). -/
theorem HsMove.retries (hs : s.hs = .wait) (ht : t.hs = .tx) (ha : s.rxAnswer = .byte Config.nak)
    (hk : s.kind ≠ .fin) (hr : s.retry < s.params.maxRetries) : HsMove s t :=
  .inr (.inr (.inr (.inr (.inl ⟨hs, ht, ha, hk, hr⟩))))

/-- `HANDSHAKE` returns (R174). -/
theorem HsMove.returns {r : Resp} (hs : s.hs ≠ .idle) (ht : t.hs = .idle) (hr : t.todo = .resp r)
    (h : Answered s r) : HsMove s t := .inr (.inr (.inr (.inr (.inr (.inl ⟨hs, ht, r, hr, h⟩)))))

/-- A read fails or times out (R172, R178). -/
theorem HsMove.readFails (hs : s.hs = .wait ∨ s.hs = .ca2) (ht : t.hs = .idle) (hp : t.phase = .aborted)
    (ha : s.rxAnswer = .err ∨ s.rxAnswer = .timeout) : HsMove s t :=
  .inr (.inr (.inr (.inr (.inr (.inr (.inl ⟨hs, ht, hp, ha⟩))))))

/-- The poll fails (R176). -/
theorem HsMove.pollFails (hs : s.hs = .probe) (ht : t.hs = .idle) (hp : t.phase = .aborted)
    (ha : s.pollAnswer = .err) : HsMove s t :=
  .inr (.inr (.inr (.inr (.inr (.inr (.inr (.inl ⟨hs, ht, hp, ha⟩)))))))

/-- A write fails (R26). -/
theorem HsMove.writeFails (hs : s.hs = .tx) (ht : t.hs = .idle) (hp : t.phase = .aborted)
    (ha : s.txAnswer = .err) : HsMove s t :=
  .inr (.inr (.inr (.inr (.inr (.inr (.inr (.inr ⟨hs, ht, hp, ha⟩)))))))

/-- The rows do not look at the schedule. -/
theorem hsMove_moved : HsMove s.moved t ↔ HsMove s t := Iff.rfl

/-! ### The table of `HS` -/

/-- Where a transaction of the channel fails, `HS` goes back to idle along the row of that transaction; where one of the
file's fails, it was idle (R26, R27, R242). -/
theorem TransactionFails.hs_move (h : TransactionFails s) (ht : t.hs = .idle) (hp : t.phase = .aborted) :
    t.hs = s.hs ∨ HsMove s t := by
  rcases h with (⟨hh, -⟩ | ⟨hh, -⟩ | ⟨hh, ha⟩ | ⟨hh, ha⟩ | ⟨hh, ha⟩) | ⟨hh, ha⟩
  · exact .inl (ht.trans hh.symm)
  · exact .inl (ht.trans hh.symm)
  · exact .inr (.writeFails hh ht hp ha)
  · exact .inr (.readFails hh ht hp (.inl ha))
  · exact .inr (.pollFails hh ht hp ha)
  · exact .inr (.readFails hh ht hp (.inr ha))

/-- An abort, whatever its cause (R242 to R247). -/
theorem AbortCause.hs_move (h : AbortCause s t) (ht : t.hs = .idle) (hp : t.phase = .aborted) :
    t.hs = s.hs ∨ HsMove s t := by
  rcases h.internal_or_fails with ⟨hh, -⟩ | hfail
  · exact .inl (ht.trans hh.symm)
  · exact hfail.hs_move ht hp

/-- A byte was written: it was the last one, or `HS` stays (R171). -/
theorem byteSent_hs_move (b : Byte) (hh : s.hs = .tx) (hlt : s.txidx < s.pktlen) :
    (byteSent (s.txWritten b)).hs = s.hs ∨ HsMove s (byteSent (s.txWritten b)) := by
  rw [byteSent_txWritten b hlt]
  by_cases hmore : s.txidx.toNat + 1 < s.pktlen.toNat
  · exact .inl ((if_pos hmore).trans hh.symm)
  · exact .inr (.sent hh (if_neg hmore) (Nat.not_lt.mp hmore))

theorem Answered.hs_ne_idle {r : Resp} (h : Answered s r) : s.hs ≠ .idle := by
  cases r with
  | ack => obtain ⟨hh, -⟩ | ⟨hh, -⟩ := h <;> rw [hh] <;> nofun
  | cancel => obtain ⟨hh, -⟩ := h; rw [hh]; nofun
  | other b => obtain ⟨hh, -⟩ := h; rw [hh]; nofun

/-- The handshake unit returns a response to the sequencer (R174). -/
theorem Answered.hs_move {r : Resp} (h : Answered s r) (u : State) : HsMove s (returned r u) :=
  .returns h.hs_ne_idle rfl rfl h

/-- Which moves of the core write `HS`, each along a row of R184. -/
theorem CoreMove.hs_move (hm : CoreMove s t) : t.hs = s.hs ∨ HsMove s t := by
  cases hm with
  | held hu => obtain ⟨e, -, rfl⟩ := hu.eq_env; exact .inl rfl
  | aborts hb hu cause => exact cause.hs_move (raiseAbort_hs _ _) (raiseAbort_phase _ _)
  | ends hh ht hp => exact .inl ((finish_hs _ _).trans hh.symm)
  | beginsEot hh ht => exact .inr (.begins hh rfl (.inr ht))
  | builds hh ht hm => exact .inr (.begins hh rfl (.inl ht))
  | @writes b hh hlt hb ha => exact byteSent_hs_move b hh hlt
  | written hh hlt => exact .inr (.sent hh rfl (Nat.le_succ_of_le (Nat.not_lt.mp hlt)))
  | probes hh ha hg => exact .inr (.polls hh rfl ha hg)
  | cancels hh ha => exact .inr (.cancels hh rfl ha)
  | retries hh ha hk hr => exact .inr (.retries hh rfl ha hk hr)
  | answers hh ha hr => exact .inr (hr.hs_move _)
  | cancelled hh ha => exact .inr (Answered.hs_move (r := .cancel) ⟨hh, _, ha⟩ _)
  | probed hh ha => exact .inr (Answered.hs_move (r := .ack) (.inr ⟨hh, _, ha⟩) _)
  | _ => exact .inl rfl

/-- Outside a session `HS` is idle (R31). -/
theorem CoreInv.hs_idle (h : CoreInv s) (hb : s.phase.isBusy = false) : s.hs = .idle := by
  have noUnit : s.unitFits ≠ true := fun hu => by simp [busy_of_unitFits hu] at hb
  have hfits := h.hsFits
  cases hh : s.hs with
  | idle => rfl
  | tx => exact absurd ((hsFits_tx hh).mp hfits).2.1 noUnit
  | wait => exact absurd ((hsFits_wait hh).mp hfits).2.1 noUnit
  | ca2 => exact absurd ((hsFits_ca2 hh).mp hfits).2.1 noUnit
  | probe => exact absurd ((hsFits_probe hh).mp hfits).2.1 noUnit
  | reserved5 | reserved6 | reserved7 => simp [State.hsFits, hh] at hfits

/-! ### Who writes `LAST_RESP` -/

/-- Only the moves that read a response write `LAST_RESP`, with the byte read (R183). -/
theorem CoreMove.lastResp_eq (hm : CoreMove s t) :
    t.lastResp = s.lastResp ∨ (s.hs = .wait ∧ s.rxAnswer = .byte t.lastResp) := by
  cases hm with
  | held hu => obtain ⟨e, -, rfl⟩ := hu.eq_env; exact .inl rfl
  | aborts hb hu cause => obtain ⟨k, e, -, rfl⟩ := hu.eq_kind_env; exact .inl (raiseAbort_lastResp _ _)
  | ends hh ht hp => exact .inl (finish_lastResp _ _)
  | probed hh ha => rw [returned_lastResp, pollTook_eq]; exact .inl rfl
  | probes hh ha | cancels hh ha | retries hh ha | answers hh ha => exact .inr ⟨hh, ha⟩
  | _ => exact .inl rfl

/-- Outside a session the core's turn makes the schedule's move and nothing else (R217, R270). -/
theorem step_outside_session (hc : CoreTurn s) (hb : s.phase.isBusy = false) (h : step s = .next t) : t = s.moved := by
  cases hr : s.reservedCode with
  | none =>
    rw [step_eq_coreStep hc hr, coreStep_idle_phase (s := s.moved) hb] at h
    exact next_eq_next.mp h
  | some f => rw [step_coreTurn_reserved hc hr] at h; cases h

theorem hostUses_next {u : State} (h : hostUses s u = .next t) : t = u := by
  unfold hostUses at h
  split at h <;> cases h
  rfl

/-- A move of another agent than the core, a reset apart, does not write `LAST_RESP` (R183, R201). -/
theorem lastResp_of_otherTurn (hc : ¬ CoreTurn s) (hreset : s.env.sched.head? ≠ some .reset)
    (h : step s = .next t) : t.lastResp = s.lastResp := by
  rcases step_cases s with ⟨hturn, -⟩ | ⟨hturn, -⟩ | ⟨-, e⟩ | ⟨hhead, -⟩ | ⟨b, -, e⟩ | ⟨n, d, -, e⟩ | ⟨-, e⟩
  · exact absurd hturn hc
  · exact absurd hturn hc
  · obtain ⟨-, -, ⟨-, rfl⟩ | ⟨-, -, -, rfl⟩⟩ := execHostStart_next.mp (e ▸ h) <;> rfl
  · exact absurd hhead hreset
  · rw [e] at h; cases h; rfl
  · rw [e] at h; cases hostUses_next h; rfl
  · rw [e] at h; cases hostUses_next h; rfl

/-- Whatever the class of the byte read in `HS_WAIT`, `AWAIT` records it (R172, R183). -/
theorem exec_response_records {b : Byte} (h : exec (decodeResponse b) s = .next t) :
    t.lastResp = b ∧ t.lastRespValid = true := by
  rcases exec_decodeResponse b s with ⟨rfl, e⟩ | ⟨rfl, e⟩ | ⟨rfl, e⟩ | ⟨-, -, -, e⟩ <;> rw [e] at h
  · obtain ⟨-, -, -, -, rfl⟩ := execRxAck_next.mp h
    split <;> exact ⟨rfl, rfl⟩
  · obtain ⟨-, -, -, -, rfl⟩ := execRxCa_next.mp h
    exact ⟨rfl, rfl⟩
  · obtain ⟨-, -, -, -, rfl⟩ := execRxNak_next.mp h
    split <;> exact ⟨rfl, rfl⟩
  · obtain ⟨-, -, -, -, rfl⟩ := execRxOther_next.mp h
    exact ⟨rfl, rfl⟩

/-- In the core's turn a byte that is there to read in `HS_WAIT` is run by its class (R172, R173). -/
theorem step_response {b : Byte} (hc : CoreTurn s) (hr : s.reservedCode = none) (hb : s.phase.isBusy = true)
    (hh : s.hs = .wait) (ha : s.rxAnswer = .byte b) : step s = exec (decodeResponse b) s.moved :=
  step_eq_exec hc hr ((coreFetch_wait (s := s.moved) hb hh).trans (fetchRead_byte ha rfl))

end Sys2Proof.Machine

/-! ### The obligations -/

namespace Sys2Proof

open Machine

/-- Settles O44: each move of the core is a row of the table with its event; a session starts only where `HS` is idle,
and the other agents' moves write no register. -/
theorem handshakeTable : Obligations.HandshakeTable := by
  intro s t h hstep hreset
  rcases step_next hstep with hm | ⟨-, -, hb, rfl⟩ | ⟨hhead, -⟩ | ⟨e, -, rfl⟩
  · exact hm.hs_move.imp_right hsMove_moved.mp
  · exact .inl (h.hs_idle hb).symm
  · exact absurd hhead hreset
  · exact .inl rfl

/-- Settles O56, by induction on the bytes that are still to come. -/
theorem sendWritesWholeUnit : Obligations.SendWritesWholeUnit :=
  fun _ _ hs hwf hsched hu hidx hlen hacc => stepsFrom_send hs hwf hsched hu hidx hlen hacc

/-- Settles O50: a change of `LAST_RESP` falls in the core's turn inside a session, and there it is the record of the
byte read; a byte read in `HS_WAIT` is recorded whatever its class. -/
theorem lastRespWrittenByAwait : Obligations.LastRespWrittenByAwait := by
  refine ⟨fun s t hstep hreset hne => ?onlyAwait, fun s t b hc hb hh ha hstep => ?everyByte⟩
  case onlyAwait =>
    by_cases hc : CoreTurn s
    · cases hb : s.phase.isBusy with
      | false => exact absurd (congrArg State.lastResp (step_outside_session hc hb hstep)) hne
      | true => exact ⟨rfl, (coreMove_of_coreTurn hc hstep).lastResp_eq.resolve_left hne⟩
    · exact absurd (lastResp_of_otherTurn hc hreset hstep) hne
  case everyByte =>
    cases hr : s.reservedCode with
    | none =>
      rw [step_response hc hr hb hh ha] at hstep
      exact exec_response_records hstep
    | some f => rw [step_coreTurn_reserved hc hr] at hstep; cases hstep

/-- Settles O23: a step of each form in `HS_TX` is one turn of `SEND`, whose `TxWrite` is accepted. -/
theorem sendByteCompletes : Obligations.SendByteCompletes := by
  intro i p s b hi hs hlt hb ha
  rw [exec_tx hi hs, sendByte_accept hlt hb ha, byteSent_txWritten b hlt]

/-- Settles O27. -/
theorem gateRule : Obligations.GateRule := fun _ => gate_iff

/-- Settles O28: with the gate open the `Ack` is kept back for the poll. -/
theorem ackGateOpenCompletes : Obligations.AckGateOpenCompletes := by
  intro s hs ha hg
  rw [exec_of_busyAt (i := .rxAck) hs rfl ⟨hs.1, hs.2.1, ha⟩, meaning, if_pos hg]
  rfl

/-- Settles O31: the byte is recorded, and the second byte of the cancel is awaited. -/
theorem cancelFirstByteCompletes : Obligations.CancelFirstByteCompletes := by
  intro s hs ha
  rw [exec_of_busyAt (i := .rxCa) hs rfl ⟨hs.1, hs.2.1, ha⟩]
  rfl

/-- Settles O33: the retry is decided in the step of the read, and `SEND` begins again without resetting `RETRY`. -/
theorem nakRetryCompletes : Obligations.NakRetryCompletes := by
  intro s hs ha hk hr
  rw [exec_of_busyAt (i := .rxNak) hs rfl ⟨hs.1, hs.2.1, ha⟩, meaning, if_pos ⟨hk, hr⟩]
  rfl

end Sys2Proof
end

section
/-!
SUPPORT. The statements of spec/43_sequencer.md: the command that starts a session and the core outside one (R201, R202,
R217); a unit from its first byte to the operation on its `Ack`, from which a data packet (R206 to R208) and the whole
acknowledged session (R218, R219) are put together; and two machines that differ in the registers `SESSION_START` leaves
as they are, which every step keeps alike (R49, R201).
-/

namespace Sys2Proof.Machine

variable {s : State}

/-! ### The command that starts a session, and the core outside one -/

/-- A command at its control point while `BUSY` = 1 is used up and nothing else (R202). -/
theorem execHostStart_busy (hr : s.reservedCode = none) (hb : s.phase.isBusy = true)
    (hh : s.env.sched.head? = some .hostStart) : execHostStart s = .next s.moved := by
  rw [execHostStart, atControl_of hr (by rw [hh]; rfl), State.busy, hb]
  rfl

/-- A command outside a session with well-formed parameters and the premises of R272 starts one (R201). -/
theorem execHostStart_launches (hr : s.reservedCode = none) (hb : s.phase.isBusy = false)
    (hh : s.env.sched.head? = some .hostStart) (hw : s.params.wellFormed = true) (hl : s.launchable = true) :
    execHostStart s = .next (sessionStart s.moved) := by
  rw [execHostStart_notBusy hr hb hh, hw, hl]
  rfl

/-- With no move scheduled a step outside a session changes nothing (R217, R270). -/
theorem step_outside_session_of_sched_nil (hb : s.phase.isBusy = false) (hr : s.reservedCode = none)
    (hsched : s.env.sched = []) : step s = .next s := by
  rw [step_of_sched_nil hsched hr, coreStep_idle_phase hb]

end Sys2Proof.Machine

namespace Sys2Proof.Machine

variable {i : Instr} {s t u : State} {m n : Nat}

/-! ### Runs put together -/

theorem stepsFrom_trans (h : stepsFrom m s = .next t) (h' : stepsFrom n t = .next u) :
    stepsFrom (m + n) s = .next u := (stepsFrom_add n h).trans h'

/-- A fault ends a run (R241). -/
theorem stepsFrom_fault {f : Fault} (h : step s = .fault f) : stepsFrom (n + 1) s = .fault f := by
  have h' : Sys2Proof.core.step s = .fault f := h
  simp only [stepsFrom, Host.Core.run, h']
  rfl

/-- A refusal ends a run (R21). -/
theorem stepsFrom_refused {e : Refusal} (h : step s = .refused e) : stepsFrom (n + 1) s = .refused e := by
  have h' : Sys2Proof.core.step s = .refused e := h
  simp only [stepsFrom, Host.Core.run, h']
  rfl

/-- The invariant holds at the end of a run (R30, R31). -/
theorem coreInv_of_stepsFrom (h : CoreInv s) (hrun : stepsFrom n s = .next t) : CoreInv t := by
  induction n generalizing s with
  | zero => cases hrun; exact h
  | succ n ih =>
    cases hs : step s with
    | next u =>
      rw [stepsFrom_succ hs] at hrun
      exact ih (coreInvariantKept s u h hs) hrun
    | fault f => rw [stepsFrom_fault hs] at hrun; cases hrun
    | refused e => rw [stepsFrom_refused hs] at hrun; cases hrun

/-- No transaction writes the schedule (R14, R20). -/
theorem AtMostOneTransaction.sched_eq {e f : Env} (h : AtMostOneTransaction s e f) : f.sched = e.sched := by
  rcases h with rfl | ⟨-, -, b, -, rfl⟩ | ⟨-, -, rfl⟩ | ⟨-, b, -, -, rfl⟩ | ⟨-, -, rfl⟩ | ⟨-, o, -, rfl⟩ |
    ⟨-, -, rfl⟩ | ⟨-, -, -, rfl⟩ | ⟨-, -, -, c, -, rfl⟩ | ⟨-, -, -, -, rfl⟩ | ⟨-, -, -, -, rfl⟩ | ⟨-, -, rfl, -⟩
  case inr.inr.inr.inr.inr.inl => cases o <;> rfl
  all_goals rfl

/-- No move of the core writes the schedule (R20). -/
theorem CoreMove.sched_eq (h : CoreMove s t) : t.env.sched = s.env.sched := by
  obtain ⟨f, hone, heq | ⟨-, -, -, -, heq⟩⟩ := h.transactionStep <;> rw [heq]
  · exact hone.sched_eq
  · exact hone.sched_eq

/-- At its control point a transmitted form's step is the core's own, also while its unit is on its way (R29). -/
theorem exec_transmit_eq_coreStep (hi : sendPhase i ≠ none) (h : exec i s = .next t) : exec i s = coreStep s := by
  obtain ⟨hr, he, -⟩ := exec_next h
  by_cases hh : s.hs = .idle
  · exact exec_eq_coreStep hi he hh
  · obtain ⟨hp, htx⟩ : sendPhase i = some s.phase ∧ s.hs = .tx := by
      cases i <;> simp_all [sendPhase, Enabled]
    obtain ⟨-, -, hst⟩ := reservedCode_eq_none.mp hr
    rw [coreStep_tx (sendPhase_busy hp) htx hr, exec_tx hp ⟨rfl, htx, hst⟩]

/-- With no move scheduled the steps of a transmitted form are steps of the machine (R21, R29). -/
theorem stepsFrom_of_execs (hi : sendPhase i ≠ none) (hsched : s.env.sched = []) (h : execs n i s = .next t) :
    stepsFrom n s = .next t := by
  induction n generalizing s with
  | zero => exact h
  | succ n ih =>
    cases hx : exec i s with
    | next u =>
      obtain ⟨hr, -, -⟩ := exec_next hx
      have hcore : coreStep s = .next u := (exec_transmit_eq_coreStep hi hx).symm.trans hx
      rw [stepsFrom_succ ((step_of_sched_nil hsched hr).trans hcore)]
      rw [execs_succ hx] at h
      exact ih ((coreStep_move hr hcore).sched_eq.trans hsched) h
    | fault f => simp [execs, hx] at h
    | refused r => simp [execs, hx] at h

/-- With no move scheduled the schedule's move changes nothing. -/
theorem moved_of_sched_nil (h : s.env.sched = []) : s.moved = s := (turn_eq s).symm.trans (if_pos h)

/-! ### The operation on an `Ack`, by phase -/

/-- After the opening header the core is at the first read (R205). -/
theorem respond_ack_headerSent (hp : s.phase = .headerSent) :
    respond .ack s = { s with seq := s.seq + 1#8, bsel := true, phase := .dataLoop, todo := .none } := by
  simp only [respond, hp]
  rfl

/-- After a data packet the core is back at the next read (R208). -/
theorem respond_ack_dataLoop (hp : s.phase = .dataLoop) :
    respond .ack s = { s with seq := s.seq + 1#8, todo := .none } := by
  simp only [respond, hp]
  rw [← hp]
  rfl

/-- After the `EOT` the core is at the closing header (R210). -/
theorem respond_ack_eotSent (hp : s.phase = .eotSent) : respond .ack s = { s with todo := .none } := by
  simp only [respond, hp]
  rw [← hp]
  rfl

end Sys2Proof.Machine

namespace Sys2Proof.Machine

variable {s : State} {bytes : List Byte}

/-! ### A unit that is acknowledged -/

/-- The state in which the sequencer's operation on an `Ack` is next: the `ACK` was read, and where the gate was open
the one poll found nothing (R172, R175, R176). -/
def acknowledged (s : State) : State :=
  { s with
    hs := .idle
    todo := .resp .ack
    lastResp := Config.ack
    lastRespValid := true
    env := { s.env.afterRead Config.ack with
      pollDraws := if s.gate then s.env.pollDraws.tail else s.env.pollDraws } }

/-- How many steps take the `Ack` out of `HANDSHAKE`: the read, and the poll where the gate is open (R175). -/
def ackSteps (s : State) : Nat := if s.gate then 2 else 1

theorem pollAnswer_of_absent (h : s.env.pollDraws.head? = some .absent) : s.pollAnswer = .got none := by
  obtain ⟨ds, hds⟩ := List.head?_eq_some_iff.mp h
  simp [State.pollAnswer, hds]

/-- A poll that finds nothing (R176). -/
theorem step_probe_none (hs : BusyAt s .probe) (hsched : s.env.sched = []) (ha : s.pollAnswer = .got none) :
    step s = .next (returned .ack s.pollFailed) := by
  have hr := reservedCode_of_busyAt hs rfl
  rw [step_eq_exec (i := .rxExtraAny none) (.inl hsched) hr
      ((coreFetch_probe (s := s.moved) hs.1 hs.2.1).trans (fetchPoll_got ha rfl)), moved_of_sched_nil hsched,
    exec_of_busyAt (i := .rxExtraAny none) hs rfl ⟨hs.1, hs.2.1, ha⟩]
  rfl

/-- The read of an `ACK` and, where the gate is open, a poll that finds nothing (R172, R175, R176). -/
theorem stepsFrom_acknowledged (hs : BusyAt s .wait) (hsched : s.env.sched = [])
    (ha : s.rxAnswer = .byte Config.ack) (hpoll : s.gate = true → s.env.pollDraws.head? = some .absent) :
    stepsFrom (ackSteps s) s = .next (acknowledged s) := by
  have hread := step_response (.inl hsched) (reservedCode_of_busyAt hs rfl) hs.1 hs.2.1 ha
  rw [moved_of_sched_nil hsched, show decodeResponse Config.ack = .rxAck from rfl,
    exec_of_busyAt (i := .rxAck) hs rfl ⟨hs.1, hs.2.1, ha⟩, meaning] at hread
  cases hg : s.gate with
  | false =>
    simp only [hg, Bool.false_eq_true, if_false] at hread
    simp only [ackSteps, acknowledged, hg, Bool.false_eq_true, if_false, stepsFrom_one hread]
    rfl
  | true =>
    simp only [hg, if_true] at hread
    have hprobe := step_probe_none (s := { awaited Config.ack s with hs := .probe }) ⟨hs.1, rfl, hs.2.2⟩ hsched
      (pollAnswer_of_absent (hpoll hg))
    simp only [ackSteps, acknowledged, hg, if_true, stepsFrom_succ hread, stepsFrom_succ hprobe]
    rfl

/-- The unit of these bytes was sent, its `ACK` read and acted on (R171, R175, R205, R208, R210, R212). -/
def unitAcknowledged (bytes : List Byte) (s : State) : State := respond .ack (acknowledged (unitSent bytes s))

/-- A unit from its first byte to the operation on its `Ack`, where the channel accepts every byte. -/
theorem stepsFrom_unitAcknowledged (hs : BusyAt s .tx) (hwf : s.pbuf.wf = true) (hsched : s.env.sched = [])
    (hu : s.unitBytes = some bytes) (hidx : s.txidx = 0#11) (hlen : s.pktlen.toNat = bytes.length)
    (hacc : ∀ d ∈ s.env.txDraws.take bytes.length, d = .accept) (ha : s.rxAnswer = .byte Config.ack)
    (hpoll : s.gate = true → s.env.pollDraws.head? = some .absent) :
    stepsFrom (bytes.length + ackSteps s + 1) s = .next (unitAcknowledged bytes s) := by
  have hsend := stepsFrom_send hs hwf hsched hu hidx hlen hacc
  have hack : stepsFrom (ackSteps s) (unitSent bytes s) = .next (acknowledged (unitSent bytes s)) :=
    stepsFrom_acknowledged (s := unitSent bytes s) ⟨hs.1, rfl, hs.2.2⟩ hsched ha hpoll
  have hresp := step_resp (s := acknowledged (unitSent bytes s)) (.inl hsched) ⟨⟨rfl, rfl, hs.2.2⟩, rfl⟩ hs.1
  rw [moved_of_sched_nil (s := acknowledged (unitSent bytes s)) hsched] at hresp
  exact stepsFrom_trans (stepsFrom_trans hsend hack) (stepsFrom_one hresp)

/-- A packet just built, to the operation on its `Ack`. -/
theorem stepsFrom_packetAcknowledged {src : List Byte} (hb : s.phase.isBusy = true) (hst : s.status ≠ .reserved7)
    (hk : s.kind ≠ .eot) (hfit : src.length ≤ s.blockSize) (hwf : s.pbuf.wf = true) (hsched : s.env.sched = [])
    (ha : s.rxAnswer = .byte Config.ack) (hacc : ∀ d ∈ s.env.txDraws.take (s.blockSize + 5), d = .accept)
    (hpoll : s.gate = true → s.env.pollDraws.head? = some .absent) :
    stepsFrom (s.blockSize + 5 + ackSteps s + 1) (unitOf src s)
      = .next (unitAcknowledged (encodePacket s.mark ⟨s.seq, padded s.params.padByte s.blockSize src⟩)
          (unitOf src s)) := by
  have hu := unitOf_unitBytes hk hfit
  have hlen := encodePacket_length_of (mark := s.mark)
    (f := ⟨s.seq, padded s.params.padByte s.blockSize src⟩) (padded_length hfit)
  have hrun := stepsFrom_unitAcknowledged (s := unitOf src s) ⟨hb, rfl, hst⟩ (unitOf_wf hfit hwf) hsched hu rfl
    ((unitOf_pktlen src s).trans hlen.symm) (hlen.symm ▸ hacc) ha hpoll
  rwa [hlen] at hrun

/-- The operation on an `Ack` makes no transaction (R205, R208, R210, R212). -/
theorem respond_ack_env (s : State) : (respond .ack s).env = s.env := by
  unfold respond
  cases s.phase <;> rfl

theorem unitAcknowledged_env :
    (unitAcknowledged bytes s).env = { s.env.afterRead Config.ack with
      wire := s.env.wire ++ bytes
      txDraws := s.env.txDraws.drop bytes.length
      pollDraws := if s.gate then s.env.pollDraws.tail else s.env.pollDraws } := respond_ack_env _

/-! ### A data packet that is acknowledged -/

/-- The state from which the data packet of `chunk` is built (R206, R207). -/
def dataSource (chunk : List Byte) (s : State) : State := { chunkRead chunk s with kind := .data }

/-- The bytes of a data packet (R81, R89). -/
def dataPacket (padByte seq : Byte) (chunk : List Byte) : List Byte :=
  encodePacket Config.stx ⟨seq, padded padByte Config.bsData chunk⟩

/-- The data packet of `chunk` was built, sent and acknowledged (R206 to R208). -/
def dataAcknowledged (chunk : List Byte) (s : State) : State :=
  unitAcknowledged (dataPacket s.params.padByte s.seq chunk) (unitOf chunk (dataSource chunk s))

/-- After it the core is back at the next read, with the next number. -/
theorem dataAcknowledged_eq {chunk : List Byte} (hp : s.phase = .dataLoop) :
    dataAcknowledged chunk s = { acknowledged (unitSent (dataPacket s.params.padByte s.seq chunk)
        (unitOf chunk (dataSource chunk s))) with seq := s.seq + 1#8, todo := .none } :=
  respond_ack_dataLoop hp

/-- What the invariant says between two data packets (R30, R33). -/
theorem CoreInv.dataLoop_rest (h : CoreInv s) (hp : s.phase = .dataLoop) (hh : s.hs = .idle) (ht : s.todo = .none) :
    Between s .dataLoop .none ∧ s.bsel = true := by
  have hb : s.phase.isBusy = true := by rw [hp]; rfl
  obtain ⟨hst, -⟩ := h.busy hb
  refine ⟨⟨⟨hp, hh, by rw [hst]; nofun⟩, ht⟩, ?_⟩
  simpa [State.idleFits, State.restFits, ht, hp] using h.idle hh

/-- Four steps read the chunk and build the packet; then it is sent and acknowledged. -/
theorem stepsFrom_dataAcknowledged {chunk : List Byte} (h : CoreInv s) (hp : s.phase = .dataLoop) (hh : s.hs = .idle)
    (ht : s.todo = .none) (hsched : s.env.sched = []) (hread : s.readAnswer = .chunk chunk) (hne : chunk ≠ [])
    (hlen : chunk.length ≤ 1024) (ha : s.rxAnswer = .byte Config.ack)
    (hacc : ∀ d ∈ s.env.txDraws.take 1029, d = .accept)
    (hpoll : (dataSource chunk s).gate = true → s.env.pollDraws.head? = some .absent) :
    stepsFrom (4 + (1029 + ackSteps (dataSource chunk s) + 1)) s = .next (dataAcknowledged chunk s) := by
  obtain ⟨hs, hbsel⟩ := h.dataLoop_rest hp hh ht
  have hb : s.phase.isBusy = true := by rw [hp]; rfl
  have hbs : (dataSource chunk s).blockSize = 1024 := blockSize_of_bsel_true hbsel
  have hmark : (dataSource chunk s).mark = Config.stx := if_pos hbsel
  have hfit : chunk.length ≤ (dataSource chunk s).blockSize := hbs ▸ hlen
  have hbuild := stepsFrom_of_execs (i := .pkt1024Data) nofun hsched (execs_pkt1024Data_built hs hread hne hfit)
  have hsend := stepsFrom_packetAcknowledged (s := dataSource chunk s) hb hs.1.2.2 nofun hfit h.pbufWf hsched ha
    (hbs ▸ hacc) hpoll
  rw [hbs, hmark] at hsend
  exact stepsFrom_trans hbuild hsend

end Sys2Proof.Machine

namespace Sys2Proof.Machine

variable {s : State} {e : Env} {bytes : List Byte} {acks polls : Nat}

/-! ### The environment of an acknowledged session -/

/-- No move and no draw is to come but those of the polls, which find nothing, at least `polls` of them; `acks` `ACK`s
wait in the RX queue. -/
structure Env.Acks (e : Env) (acks polls : Nat) : Prop where
  sched : e.sched = []
  txDraws : e.txDraws = []
  rxDraws : e.rxDraws = []
  sizeDraws : e.sizeDraws = []
  readDraws : e.readDraws = []
  rxQueue : e.rxQueue = List.replicate acks Config.ack
  absent : ∀ d ∈ e.pollDraws, d = .absent
  polls_le : polls ≤ e.pollDraws.length

theorem Env.Acks.rxAnswer (h : s.env.Acks (acks + 1) polls) : s.rxAnswer = .byte Config.ack := by
  simp [State.rxAnswer, State.rxOldest, h.rxDraws, h.rxQueue, List.replicate_succ]

theorem Env.Acks.accepts (h : e.Acks acks polls) (n : Nat) : ∀ d ∈ e.txDraws.take n, d = .accept := by
  simp [h.txDraws]

theorem Env.Acks.readAnswer (h : s.env.Acks acks polls) : s.readAnswer = .chunk (s.env.file.rest.take 1024) := by
  simp [State.readAnswer, h.readDraws, Config.readMax]

theorem Env.Acks.sizeAnswer (h : s.env.Acks acks polls) : s.sizeAnswer = .answer := by
  simp [State.sizeAnswer, h.sizeDraws]

theorem Env.Acks.head_pollDraws (h : e.Acks acks (polls + 1)) : e.pollDraws.head? = some .absent := by
  have hle := h.polls_le
  cases hd : e.pollDraws with
  | nil => simp [hd] at hle
  | cons d ds => rw [List.head?_cons, h.absent d (by simp [hd])]

/-- A unit that is acknowledged uses up one `ACK`, and one poll where the gate is open (R175, R176). -/
theorem Env.Acks.unitAcknowledged {n : Nat} (h : s.env.Acks (acks + 1) n)
    (hn : (if s.gate then polls + 1 else polls) ≤ n) : (unitAcknowledged bytes s).env.Acks acks polls := by
  rw [unitAcknowledged_env]
  have hle := hn.trans h.polls_le
  refine ⟨h.sched, ?_, ?_, h.sizeDraws, h.readDraws, ?_, fun d hd => h.absent d ?_, ?_⟩
  · simp [h.txDraws]
  · simp [Env.afterRead, h.rxDraws]
  · simp [Env.afterRead, h.rxQueue]
  · cases hg : s.gate <;> simp only [hg, if_true, if_false, Bool.false_eq_true] at hd
    · exact hd
    · exact List.mem_of_mem_tail hd
  · cases hg : s.gate <;> simp only [hg, if_true, if_false, Bool.false_eq_true] at hle ⊢
    · exact hle
    · rw [List.length_tail]; omega

end Sys2Proof.Machine

namespace Sys2Proof.Machine

variable {s t u : State} {bytes sent sent' : List Byte} {k reads reads' acks acks' : Nat}

/-! ### How a session ends -/

/-- The session has ended with success in `t`; since `s` the core has written `sent`, made `reads` file reads and
consumed `acks` `ACK`s, the last response among them (R216, R218, R48). -/
structure Ended (s : State) (sent : List Byte) (reads acks : Nat) (t : State) : Prop where
  phase : t.phase = .closed
  status : t.status = .success
  fclosed : t.fclosed = true
  isOpen : t.env.file.isOpen = false
  lastResp : t.lastResp = Config.ack
  lastRespValid : t.lastRespValid = true
  wire : t.env.wire = s.env.wire ++ sent
  fileReads : t.env.fileReads = s.env.fileReads + reads
  rxTaken : t.env.rxTaken = s.env.rxTaken ++ List.replicate acks Config.ack

/-- A run from `s` ends the session so. -/
def RunsToEnd (s : State) (sent : List Byte) (reads acks : Nat) : Prop :=
  ∃ k t, stepsFrom k s = .next t ∧ Ended s sent reads acks t

/-- What a run before it wrote, read and consumed is added. -/
theorem RunsToEnd.after (h : RunsToEnd t sent' reads' acks') (hrun : stepsFrom k s = .next t)
    (hwire : t.env.wire = s.env.wire ++ sent) (hreads : t.env.fileReads = s.env.fileReads + reads)
    (htaken : t.env.rxTaken = s.env.rxTaken ++ List.replicate acks Config.ack) :
    RunsToEnd s (sent ++ sent') (reads' + reads) (acks' + acks) := by
  obtain ⟨k', u, hrun', hu⟩ := h
  refine ⟨k + k', u, stepsFrom_trans hrun hrun', { hu with wire := ?_, fileReads := ?_, rxTaken := ?_ }⟩
  · rw [hu.wire, hwire, List.append_assoc]
  · rw [hu.fileReads, hreads, Nat.add_assoc, Nat.add_comm reads]
  · rw [hu.rxTaken, htaken, List.append_assoc, List.replicate_append_replicate, Nat.add_comm acks]

/-- A unit that is acknowledged wrote its bytes and consumed one `ACK`. -/
theorem RunsToEnd.after_unit (h : RunsToEnd (unitAcknowledged bytes u) sent' reads' acks')
    (hrun : stepsFrom k s = .next (unitAcknowledged bytes u)) (hwire : u.env.wire = s.env.wire)
    (hreads : u.env.fileReads = s.env.fileReads + reads) (htaken : u.env.rxTaken = s.env.rxTaken) :
    RunsToEnd s (bytes ++ sent') (reads' + reads) (acks' + 1) := by
  refine h.after (acks := 1) hrun ?_ ?_ ?_ <;> rw [unitAcknowledged_env]
  · rw [← hwire]
  · exact hreads
  · rw [← htaken]; rfl

/-- `finish(SUCCESS)` closes the file (R213, R216). -/
theorem finish_ended (hf : s.fclosed = false) (hr : s.lastResp = Config.ack) (hv : s.lastRespValid = true) :
    Ended s [] 0 0 (finish .success s) := by
  have he : (finish .success s).env = s.env.fileClosed := by
    rw [finish_env, closeFile_env, hf]
    rfl
  refine ⟨rfl, rfl, finish_fclosed _ _, ?_, ?_, ?_, ?_, ?_, ?_⟩
  · rw [he]; rfl
  · rw [finish_lastResp, hr]
  · rw [finish_lastRespValid, hv]
  · rw [he, List.append_nil]; rfl
  · rw [he]; rfl
  · rw [he, List.replicate_zero, List.append_nil]; rfl

/-- Where `finish(SUCCESS)` is next, one step is left (R212, R216). -/
theorem RunsToEnd.of_finish (hsched : s.env.sched = []) (hs : Between s .finSent .none) (hf : s.fclosed = false)
    (hr : s.lastResp = Config.ack) (hv : s.lastRespValid = true) : RunsToEnd s [] 0 0 := by
  have hstep := step_sessionEnd (.inl hsched) hs
  rw [moved_of_sched_nil hsched] at hstep
  exact ⟨1, _, stepsFrom_one hstep, finish_ended hf hr hv⟩

/-! ### The closing header -/

/-- The closing header's bytes (R88, R90). -/
def finPacket (padByte : Byte) : List Byte :=
  encodePacket Config.soh ⟨0x00#8, padded padByte Config.bsHdr (headerFields [] 0)⟩

theorem finPacket_length (padByte : Byte) : (finPacket padByte).length = 133 :=
  encodePacket_length_of (padded_length (Nat.le_of_ble_eq_true rfl))

/-- The closing header was built, sent and acknowledged (R211, R212). -/
def finAcknowledged (s : State) : State :=
  unitAcknowledged (finPacket s.params.padByte) (unitOf (headerFields [] 0) (finSend s))

/-- After it the end of the session is next. -/
theorem finAcknowledged_eq (s : State) :
    finAcknowledged s = { acknowledged (unitSent (finPacket s.params.padByte)
        (unitOf (headerFields [] 0) (finSend s))) with todo := .none } :=
  respond_finSent (r := .ack) (s := acknowledged (unitSent _ (unitOf (headerFields [] 0) (finSend s)))) rfl

/-- From the `Ack` to the `EOT` the closing header and the end of the session are left (R210 to R212, R216). -/
theorem runsToEnd_fin (h : CoreInv s) (hs : Between s .eotSent .none) (he : s.env.Acks 1 1) :
    RunsToEnd s (finPacket s.params.padByte) 0 1 := by
  have hbs : (finSend s).blockSize = 128 := blockSize_of_bsel_false rfl
  have hfit : (headerFields [] 0).length ≤ (finSend s).blockSize := by rw [hbs]; decide
  obtain ⟨-, hf⟩ := h.busy (by rw [hs.1.1]; rfl)
  have hbuild := stepsFrom_of_execs (i := .pkt128Fin) nofun he.sched (execs_pkt128Fin_built hs)
  have hsend := stepsFrom_packetAcknowledged (s := finSend s) rfl hs.1.2.2 nofun hfit h.pbufWf he.sched
    (Env.Acks.rxAnswer (s := finSend s) he) (he.accepts _) (fun _ => he.head_pollDraws)
  rw [hbs] at hsend
  have hend : RunsToEnd (finAcknowledged s) [] 0 0 := by
    rw [finAcknowledged_eq]
    exact .of_finish he.sched ⟨⟨rfl, rfl, hs.1.2.2⟩, rfl⟩ hf rfl rfl
  have hall := hend.after_unit (reads := 0) (stepsFrom_trans hbuild hsend) rfl rfl rfl
  rwa [List.append_nil] at hall

/-! ### The `EOT` -/

/-- The `EOT`, built and about to be sent, after the read that found the end of the file (R206, R209). -/
def eotBuilt (s : State) : State := eotSend { s with todo := .eotSend, env := s.env.afterFileRead 0 }

/-- After it the closing header is next (R210). -/
theorem eotAcknowledged_eq (s : State) :
    unitAcknowledged [Config.eot] (eotBuilt s)
      = { acknowledged (unitSent [Config.eot] (eotBuilt s)) with todo := .none } :=
  respond_ack_eotSent rfl

/-- Where the file is at its end, the `EOT`, the closing header and the end of the session are left (R206, R209 to
R212). -/
theorem runsToEnd_eot (h : CoreInv s) (hs : Between s .dataLoop .none) (he : s.env.Acks 2 1)
    (hrest : s.env.file.rest = []) : RunsToEnd s ([Config.eot] ++ finPacket s.params.padByte) 1 2 := by
  have hread : s.readAnswer = .chunk [] := by rw [he.readAnswer, hrest]; rfl
  have hbuild : stepsFrom 2 s = .next (eotBuilt s) :=
    stepsFrom_of_execs (i := .eot) nofun he.sched (execs_eot_built hs hread)
  have heot : (eotBuilt s).env.Acks 2 1 :=
    { he with readDraws := by simp [eotBuilt, eotSend, Env.afterFileRead, he.readDraws] }
  have hgate : (eotBuilt s).gate = false := rfl
  have hsend := stepsFrom_unitAcknowledged (s := eotBuilt s) (bytes := [Config.eot]) ⟨rfl, rfl, hs.1.2.2⟩ h.pbufWf
    heot.sched rfl rfl rfl (heot.accepts _) heot.rxAnswer (by rw [hgate]; nofun)
  have hrun := stepsFrom_trans hbuild hsend
  have hbetween : Between (unitAcknowledged [Config.eot] (eotBuilt s)) .eotSent .none := by
    rw [eotAcknowledged_eq]
    exact ⟨⟨rfl, rfl, hs.1.2.2⟩, rfl⟩
  have hparams : (unitAcknowledged [Config.eot] (eotBuilt s)).params = s.params := by
    rw [eotAcknowledged_eq]
    rfl
  have hfin := runsToEnd_fin (coreInv_of_stepsFrom h hrun) hbetween (heot.unitAcknowledged (by rw [hgate]; rfl))
  rw [hparams] at hfin
  exact hfin.after_unit hrun rfl rfl rfl

end Sys2Proof.Machine

namespace Sys2Proof.Machine

variable {s : State} {n : Nat}

/-! ### The data packets -/

/-- Data packet `j` of a file's bytes, where packet 0 has the number `seq` (R206, R207). -/
def dataPacketAt (padByte seq : Byte) (data : List Byte) (j : Nat) : List Byte :=
  dataPacket padByte (seq + BitVec.ofNat 8 j) ((data.drop (1024 * j)).take 1024)

/-- The first `n` data packets of a file's bytes, numbered from `seq` on modulo 256 (R218). -/
def dataPackets (padByte seq : Byte) (data : List Byte) (n : Nat) : List Byte :=
  (List.range n).flatMap (dataPacketAt padByte seq data)

theorem dataPacketAt_zero (padByte seq : Byte) (data : List Byte) :
    dataPacketAt padByte seq data 0 = dataPacket padByte seq (data.take 1024) := by
  simp [dataPacketAt]

theorem dataPacketAt_succ (padByte seq : Byte) (data : List Byte) (j : Nat) :
    dataPacketAt padByte seq data (j + 1) = dataPacketAt padByte (seq + 1#8) (data.drop 1024) j := by
  rw [dataPacketAt, dataPacketAt, List.drop_drop, Nat.add_comm j, BitVec.ofNat_add, BitVec.add_assoc, Nat.mul_add]

theorem dataPackets_succ (padByte seq : Byte) (data : List Byte) (n : Nat) :
    dataPackets padByte seq data (n + 1)
      = dataPacket padByte seq (data.take 1024) ++ dataPackets padByte (seq + 1#8) (data.drop 1024) n := by
  simp only [dataPackets, List.range_succ_eq_map, List.flatMap_cons, List.flatMap_map, Nat.succ_eq_add_one,
    dataPacketAt_zero, dataPacketAt_succ]

theorem dataPackets_length (padByte seq : Byte) (data : List Byte) (n : Nat) :
    (dataPackets padByte seq data n).length = 1029 * n := by
  have hlen (j : Nat) : (dataPacketAt padByte seq data j).length = 1029 :=
    encodePacket_length_of (padded_length (List.length_take_le _ _))
  simp [dataPackets, List.length_flatMap, hlen, Nat.mul_comm]

/-- A read of 1024 bytes, or what remains, leaves the bytes after them (R25, R62). -/
theorem rest_afterFileRead (e : Env) :
    (e.afterFileRead (e.file.rest.take 1024).length).file.rest = e.file.rest.drop 1024 := by
  have hrest : (e.afterFileRead (e.file.rest.take 1024).length).file.rest
      = e.file.rest.drop (min 1024 e.file.rest.length) := by
    rw [← List.length_take, FileSource.rest, FileSource.rest, List.drop_drop]
    rfl
  rw [hrest]
  rcases Nat.le_total 1024 e.file.rest.length with h | h
  · rw [Nat.min_eq_left h]
  · rw [Nat.min_eq_right h, List.drop_length, List.drop_of_length_le h]

/-- What is left to send from a read on: the data packets of the bytes that remain, the `EOT` and the closing header. -/
def afterHeader (padByte seq : Byte) (data : List Byte) (n : Nat) : List Byte :=
  dataPackets padByte seq data n ++ ([Config.eot] ++ finPacket padByte)

theorem afterHeader_succ (padByte seq : Byte) (data : List Byte) (n : Nat) :
    afterHeader padByte seq data (n + 1)
      = dataPacket padByte seq (data.take 1024) ++ afterHeader padByte (seq + 1#8) (data.drop 1024) n := by
  rw [afterHeader, dataPackets_succ, List.append_assoc, afterHeader]

/-- From a read on, by induction on the number of data packets that remain (R206 to R212). -/
theorem runsToEnd_data (h : CoreInv s) (hs : Between s .dataLoop .none) (he : s.env.Acks (n + 2) (n + 1))
    (hn : n = (s.env.file.rest.length + 1023) / 1024) :
    RunsToEnd s (afterHeader s.params.padByte s.seq s.env.file.rest n) (n + 1) (n + 2) := by
  induction n generalizing s with
  | zero => exact runsToEnd_eot h hs he (List.eq_nil_of_length_eq_zero (by omega))
  | succ n ih =>
    obtain ⟨chunk, hchunk⟩ : ∃ chunk, chunk = s.env.file.rest.take 1024 := ⟨_, rfl⟩
    have hlen : chunk.length ≤ 1024 := by rw [hchunk]; exact List.length_take_le _ _
    have hne : chunk ≠ [] := by
      rw [hchunk, ← List.length_pos_iff, List.length_take]
      omega
    have hread : s.readAnswer = .chunk chunk := by rw [he.readAnswer, hchunk]
    have hrun := stepsFrom_dataAcknowledged h hs.1.1 hs.1.2.1 hs.2 he.sched hread hne hlen he.rxAnswer (he.accepts _)
      (fun _ => he.head_pollDraws)
    have hafter := dataAcknowledged_eq (chunk := chunk) hs.1.1
    have hbetween : Between (dataAcknowledged chunk s) .dataLoop .none := by
      rw [hafter]
      exact ⟨⟨hs.1.1, rfl, hs.1.2.2⟩, rfl⟩
    have hparams : (dataAcknowledged chunk s).params = s.params := by rw [hafter]; rfl
    have hseq : (dataAcknowledged chunk s).seq = s.seq + 1#8 := by rw [hafter]
    have hrest : (dataAcknowledged chunk s).env.file.rest = s.env.file.rest.drop 1024 := by
      rw [hafter, ← rest_afterFileRead, ← hchunk]
      rfl
    have hsource : (unitOf chunk (dataSource chunk s)).env.Acks (n + 3) (n + 2) :=
      { he with readDraws := by simp [unitOf, dataSource, chunkRead, Env.afterFileRead, he.readDraws] }
    have hnext := ih (coreInv_of_stepsFrom h hrun) hbetween (hsource.unitAcknowledged (by split <;> omega))
      (by rw [hrest, List.length_drop]; omega)
    rw [hrest, hparams, hseq] at hnext
    have hall := hnext.after_unit (s := s) (reads := 1) hrun rfl rfl rfl
    rwa [hchunk, ← afterHeader_succ] at hall

/-! ### The opening header -/

/-- The opening header's bytes (R86). -/
def hdrPacket (p : Params) (size : Nat) : List Byte :=
  encodePacket Config.soh ⟨0x00#8, padded p.padByte Config.bsHdr (headerFields p.logicalName size)⟩

theorem hdrPacket_length {p : Params} {size : Nat} (hp : p.wellFormed = true) (hs : size < 2 ^ p.sizeBits) :
    (hdrPacket p size).length = 133 := encodePacket_length_of (padded_length (headerFields_fits hp hs))

/-- The opening header, built and about to be sent (R203, R204). -/
def hdrBuilt (s : State) : State := unitOf (headerFields s.params.logicalName s.env.file.size) (measured s)

/-- The opening header was built, sent and acknowledged (R203 to R205). -/
def hdrAcknowledged (s : State) : State := unitAcknowledged (hdrPacket s.params s.env.file.size) (hdrBuilt s)

/-- After it the core is at the first read, with number 1. -/
theorem hdrAcknowledged_eq (hp : s.phase = .headerSent) :
    hdrAcknowledged s = { acknowledged (unitSent (hdrPacket s.params s.env.file.size) (hdrBuilt s)) with
      seq := 1#8, bsel := true, phase := .dataLoop, todo := .none } :=
  respond_ack_headerSent hp

/-- From the start of a session on (R203 to R212, R218). -/
theorem runsToEnd_hdr (h : CoreInv s) (hs : Between s .headerSent .none) (he : s.env.Acks (n + 3) (n + 2))
    (hw : s.params.wellFormed = true) (hsize : s.env.file.size < 2 ^ s.params.sizeBits)
    (hn : n = (s.env.file.rest.length + 1023) / 1024) :
    RunsToEnd s (hdrPacket s.params s.env.file.size ++ afterHeader s.params.padByte 1#8 s.env.file.rest n)
      (n + 1) (n + 3) := by
  have hb : s.phase.isBusy = true := by rw [hs.1.1]; rfl
  have hbs : (measured s).blockSize = 128 := blockSize_of_bsel_false rfl
  have hlen := headerFields_fits hw hsize
  have hbuild : stepsFrom 5 s = .next (hdrBuilt s) :=
    stepsFrom_of_execs (i := .pkt128Hdr) nofun he.sched (execs_pkt128Hdr_built hs he.sizeAnswer hsize hlen)
  have hbuilt : (hdrBuilt s).env.Acks (n + 3) (n + 2) :=
    { he with sizeDraws := by simp [hdrBuilt, unitOf, measured, hdrSend, he.sizeDraws] }
  have hsend := stepsFrom_packetAcknowledged (s := measured s) hb hs.1.2.2 nofun hlen h.pbufWf hbuilt.sched
    hbuilt.rxAnswer (hbuilt.accepts _) (fun _ => hbuilt.head_pollDraws)
  rw [hbs] at hsend
  have hrun : stepsFrom _ s = .next (hdrAcknowledged s) := stepsFrom_trans hbuild hsend
  have hafter := hdrAcknowledged_eq hs.1.1
  have hbetween : Between (hdrAcknowledged s) .dataLoop .none := by
    rw [hafter]
    exact ⟨⟨rfl, rfl, hs.1.2.2⟩, rfl⟩
  have hparams : (hdrAcknowledged s).params = s.params := by rw [hafter]; rfl
  have hseq : (hdrAcknowledged s).seq = 1#8 := by rw [hafter]
  have hfile : (hdrAcknowledged s).env.file = s.env.file := by rw [hafter]; rfl
  have hnext := runsToEnd_data (n := n) (coreInv_of_stepsFrom h hrun) hbetween
    (hbuilt.unitAcknowledged (by split <;> omega)) (by rw [hfile, hn])
  rw [hfile, hparams, hseq] at hnext
  exact hnext.after_unit (s := s) (reads := 0) hrun rfl rfl rfl

/-! ### The start of a session, and the receiver's answers -/

/-- Outside a session no register holds a reserved code (R30, R31, R40). -/
theorem CoreInv.reservedCode_eq_none (h : CoreInv s) (hb : s.phase.isBusy = false) : s.reservedCode = none := by
  have hst := h.statusFits
  refine Machine.reservedCode_eq_none.mpr ⟨fun hp => ?_, ?_, fun he => ?_⟩
  · simp [State.statusFits, hp] at hst
  · rw [h.hs_idle hb]; rfl
  · cases hp : s.phase <;> simp [State.statusFits, hp, he] at hst

/-- The receiver's bytes join the RX queue, one a step (R24). -/
theorem stepsFrom_receiver : ∀ (bs : List Byte) {s : State}, s.env.sched = bs.map Move.receiver →
    stepsFrom bs.length s = .next { s with env := { s.env with sched := [], rxQueue := s.env.rxQueue ++ bs } }
  | [], s, h => by
    have hs : ({ s with env := { s.env with sched := [], rxQueue := s.env.rxQueue ++ [] } } : State) = s := by
      rw [List.append_nil, ← show s.env.sched = [] from h]
    rw [hs]
    rfl
  | b :: bs, s, h => by
    have hstep : step s = .next (receiverSends b s.moved) := by
      simp only [step, fetch, h, List.map_cons]
    have hsched : (receiverSends b s.moved).env.sched = bs.map Move.receiver := by
      simp [h]
    rw [List.length_cons, stepsFrom_succ hstep, stepsFrom_receiver bs hsched]
    simp

/-- A session has begun and the `ACK`s of the receiver wait (R201, R24). -/
def launched (acks : Nat) (s : State) : State :=
  { sessionStart s with env := { s.env with
      sched := [], rxQueue := s.env.rxQueue ++ List.replicate acks Config.ack } }

theorem stepsFrom_launched {acks : Nat} (hr : s.reservedCode = none) (hb : s.phase.isBusy = false)
    (hw : s.params.wellFormed = true) (hl : LaunchPremises s)
    (hsched : s.env.sched = .hostStart :: List.replicate acks (.receiver Config.ack)) :
    stepsFrom (acks + 1) s = .next (launched acks s) := by
  have hhead : s.env.sched.head? = some .hostStart := by rw [hsched]; rfl
  have hlaunch : s.launchable = true :=
    launchable_iff.mpr ⟨hl.channelReady, hl.crcModeRequested, .inl hl.rxQueueEmpty, hl.fileAtZero⟩
  have hstart : step s = .next (sessionStart s.moved) := by
    rw [step_hostStart hhead, exec_hostStart, execHostStart_launches hr hb hhead hw hlaunch]
  have hreceive := stepsFrom_receiver (List.replicate acks Config.ack) (s := sessionStart s.moved) (by simp [hsched])
  rw [List.length_replicate] at hreceive
  exact (stepsFrom_succ hstart).trans hreceive

/-- The whole session, from the state in which `HostStart` is scheduled (R218, R219). -/
theorem runsToEnd_session (h : CoreInv s) (hb : s.phase.isBusy = false) (hw : s.params.wellFormed = true)
    (hl : LaunchPremises s) (hn : n = (s.env.file.data.length + 1023) / 1024)
    (hsched : s.env.sched = .hostStart :: List.replicate (n + 3) (.receiver Config.ack))
    (he : (launched (n + 3) s).env.Acks (n + 3) (n + 2)) :
    RunsToEnd s (hdrPacket s.params s.env.file.size ++ afterHeader s.params.padByte 1#8 s.env.file.data n)
      (n + 1) (n + 3) := by
  obtain ⟨⟨-, hcursor⟩, hfits⟩ : (s.env.file.isOpen = true ∧ s.env.file.cursor = 0)
      ∧ s.env.file.size < 2 ^ s.params.sizeBits := by simpa [State.fileAtZero] using hl.fileAtZero
  have hrest : s.env.file.rest = s.env.file.data := by rw [FileSource.rest, hcursor, List.drop_zero]
  have hrun := stepsFrom_launched (h.reservedCode_eq_none hb) hb hw hl hsched
  have hend := runsToEnd_hdr (s := launched (n + 3) s) (coreInv_of_stepsFrom h hrun) ⟨⟨rfl, rfl, nofun⟩, rfl⟩ he hw
    hfits (hn.trans (by rw [← hrest]; rfl))
  have hall := hend.after (s := s) (sent := []) (reads := 0) (acks := 0) hrun (List.append_nil _).symm rfl
    (List.append_nil _).symm
  rw [← hrest]
  exact hall

end Sys2Proof.Machine

namespace Sys2Proof.Machine

variable {i : Instr} {q : Resp} {s t : State}

/-! ### The registers that a session writes before it reads them -/

/-- The registers that `SESSION_START` leaves as they are (R201). -/
structure Stale where
  crc : U16
  pbuf : Memory
  plen : BitVec 11
  pktlen : BitVec 11
  fsize : Nat
  kind : Kind
  lastResp : Byte

variable {r : Stale}

/-- `s` with these registers in place of its own. -/
def State.withStale (r : Stale) (s : State) : State :=
  { s with
    crc := r.crc, pbuf := r.pbuf, plen := r.plen, pktlen := r.pktlen, fsize := r.fsize, kind := r.kind
    lastResp := r.lastResp }

/-- What these registers hold in `s`. -/
def State.stale (s : State) : Stale := ⟨s.crc, s.pbuf, s.plen, s.pktlen, s.fsize, s.kind, s.lastResp⟩

@[simp] theorem withStale_phase : (s.withStale r).phase = s.phase := rfl
@[simp] theorem withStale_hs : (s.withStale r).hs = s.hs := rfl
@[simp] theorem withStale_todo : (s.withStale r).todo = s.todo := rfl
@[simp] theorem withStale_env : (s.withStale r).env = s.env := rfl
@[simp] theorem withStale_params : (s.withStale r).params = s.params := rfl
@[simp] theorem withStale_blockSize : (s.withStale r).blockSize = s.blockSize := rfl
@[simp] theorem withStale_reservedCode : (s.withStale r).reservedCode = s.reservedCode := rfl
@[simp] theorem withStale_txAnswer : (s.withStale r).txAnswer = s.txAnswer := rfl
@[simp] theorem withStale_rxAnswer : (s.withStale r).rxAnswer = s.rxAnswer := rfl
@[simp] theorem withStale_pollAnswer : (s.withStale r).pollAnswer = s.pollAnswer := rfl
@[simp] theorem withStale_sizeAnswer : (s.withStale r).sizeAnswer = s.sizeAnswer := rfl
@[simp] theorem withStale_readAnswer : (s.withStale r).readAnswer = s.readAnswer := rfl

theorem withStale_gate (hk : r.kind = s.kind) : (s.withStale r).gate = s.gate := by
  simp only [State.gate, State.withStale, hk]

/-! ### What was written in both of two machines -/

/-- A valid `LAST_RESP` is the same; one that is not valid is not looked at (R274). -/
abbrev SameLastResp (s : State) (r : Stale) : Prop := s.lastRespValid = true → r.lastResp = s.lastResp

/-- Both buffers begin with the same block of `n` bytes (R36, R144). -/
def SameBlock (n : Nat) (m m' : Memory) : Prop :=
  ∃ payload rest rest', payload.length = n ∧ m = cellsFrom 0 payload ++ rest ∧ m' = cellsFrom 0 payload ++ rest'

/-- The same source bytes, which fit the block, were loaded in both (R143). -/
def SameLoaded (s : State) (r : Stale) : Prop :=
  ∃ src m m', src.length ≤ s.blockSize ∧ s.pbuf = memWrite m 0 src ∧ r.pbuf = memWrite m' 0 src
    ∧ s.plen = BitVec.ofNat 11 src.length ∧ r.plen = BitVec.ofNat 11 src.length

/-- What the session has written while `HS` is idle, by the internal operation that is next (R203 to R212). -/
def WrittenIdle (s : State) (r : Stale) : Todo → Prop
  | .none => True
  | .hdrSend => r.fsize = s.fsize
  | .hdrEncode => r.fsize = s.fsize ∧ r.kind = s.kind
  | .dataSend _ => True
  | .eotSend => True
  | .finEncode => r.kind = s.kind
  | .pad => r.kind = s.kind ∧ SameLoaded s r
  | .buildPacket => r.kind = s.kind ∧ SameBlock s.blockSize s.pbuf r.pbuf
  | .resp _ => True

/-- What the session has written of a unit that was built; the `EOT` has neither payload nor CRC (R148, R151). -/
structure UnitWritten (s : State) (r : Stale) : Prop where
  kind : r.kind = s.kind
  pktlen : r.pktlen = s.pktlen
  packet : s.kind ≠ .eot → r.crc = s.crc ∧ SameBlock s.blockSize s.pbuf r.pbuf

/-- `r` may stand in for the registers of `s`: what the session has written is the same, and so is a valid
`LAST_RESP`. -/
structure Alike (s : State) (r : Stale) : Prop where
  lastResp : SameLastResp s r
  idle : s.phase.isBusy = true → s.hs = .idle → WrittenIdle s r s.todo
  unit : s.phase.isBusy = true → s.hs ≠ .idle → UnitWritten s r

theorem Alike.env (h : Alike s r) (e : Env) : Alike { s with env := e } r :=
  ⟨h.lastResp, h.idle, fun hb hh => ⟨(h.unit hb hh).kind, (h.unit hb hh).pktlen, (h.unit hb hh).packet⟩⟩

/-- Outside a session nothing need have been written (R217). -/
theorem Alike.of_notBusy (hl : SameLastResp s r) (hb : s.phase.isBusy = false) :
    Alike s r :=
  ⟨hl, fun h => absurd (hb.symm.trans h) nofun, fun h => absurd (hb.symm.trans h) nofun⟩

theorem Alike.of_idle (hl : SameLastResp s r) (hh : s.hs = .idle)
    (hw : WrittenIdle s r s.todo) : Alike s r := ⟨hl, fun _ _ => hw, fun _ h => absurd hh h⟩

theorem Alike.of_unit (hl : SameLastResp s r) (hh : s.hs ≠ .idle)
    (hu : UnitWritten s r) : Alike s r := ⟨hl, fun _ h => absurd h hh, fun _ _ => hu⟩

/-- Two outcomes that differ at most in registers that were not written. -/
inductive AlikeOut : Out → Out → Prop
  | next {s : State} {r : Stale} (h : Alike s r) : AlikeOut (.next s) (.next (s.withStale r))
  | fault (f : Fault) : AlikeOut (.fault f) (.fault f)
  | refused (e : Refusal) : AlikeOut (.refused e) (.refused e)

theorem AlikeOut.of_eq (ht : t = s.withStale r) (h : Alike s r) : AlikeOut (.next s) (.next t) := ht ▸ .next h

/-! ### The ends of a session, and one turn of `SEND` -/

theorem raiseAbort_withStale (st : Status) : raiseAbort st (s.withStale r) = (raiseAbort st s).withStale r := by
  have hf : (s.withStale r).fclosed = s.fclosed := rfl
  simp only [raiseAbort, State.closeFile, hf]
  split <;> rfl

theorem alikeOut_raiseAbort (st : Status) (hl : SameLastResp s r) :
    AlikeOut (.next (raiseAbort st s)) (.next (raiseAbort st (s.withStale r))) := by
  refine .of_eq (raiseAbort_withStale st) (.of_notBusy ?_ rfl)
  rwa [SameLastResp, raiseAbort_lastRespValid, raiseAbort_lastResp]

theorem alikeOut_finish (hl : SameLastResp s r) :
    AlikeOut (.next (finish .success s)) (.next (finish .success (s.withStale r))) := by
  refine .of_eq (r := r) ?_ (.of_notBusy (by rwa [SameLastResp, finish_lastRespValid, finish_lastResp]) rfl)
  have hf : (s.withStale r).fclosed = s.fclosed := rfl
  simp only [finish, State.closeFile, hf]
  split <;> rfl

theorem SameBlock.memRead {n : Nat} {m m' : Memory} (h : SameBlock n m m') :
    ∃ payload, Machine.memRead m 0 n = some payload ∧ Machine.memRead m' 0 n = some payload := by
  obtain ⟨payload, rest, rest', rfl, rfl, rfl⟩ := h
  exact ⟨payload, memRead_cellsFrom payload 0 rest, memRead_cellsFrom payload 0 rest'⟩

theorem SameBlock.memByte {n k : Nat} {m m' : Memory} (h : SameBlock n m m') (hk : k < n) :
    Machine.memByte m' k = Machine.memByte m k := by
  obtain ⟨payload, rest, rest', rfl, rfl, rfl⟩ := h
  simp [memByte_append, memByte_cellsFrom, hk]

/-- `PacketByte` reads the unit alone (R149). -/
theorem UnitWritten.packetByte (h : UnitWritten s r) (k : Nat) : (s.withStale r).packetByte k = s.packetByte k := by
  have hkind : (s.withStale r).kind = s.kind := h.kind
  by_cases hk : s.kind = .eot
  · rw [packetByte_eot hk, packetByte_eot (hkind.trans hk)]
  · obtain ⟨hcrc, hblock⟩ := h.packet hk
    have hcrc' : (s.withStale r).crc = s.crc := hcrc
    have hpayload : (s.withStale r).payloadByte (k - 3) = s.payloadByte (k - 3) := by
      unfold State.payloadByte
      rw [withStale_blockSize]
      split
      · rfl
      · rw [show (s.withStale r).pbuf = r.pbuf from rfl, hblock.memByte (by omega)]
    simp only [State.packetByte, hkind, hcrc', hpayload, withStale_blockSize]
    rfl

theorem byteSent_withStale (b : Byte) (h : r.pktlen = s.pktlen) :
    byteSent ((s.withStale r).txWritten b) = (byteSent (s.txWritten b)).withStale r := by
  cases r
  cases h
  rfl

/-- A unit on its way goes on in both machines alike (R171). -/
theorem alikeOut_sendByte (hl : SameLastResp s r) (hh : s.hs = .tx)
    (hu : UnitWritten s r) : AlikeOut (sendByte s) (sendByte (s.withStale r)) := by
  have hlen : (s.withStale r).pktlen = s.pktlen := hu.pktlen
  have same : Alike s r := .of_unit hl (by rw [hh]; nofun) hu
  by_cases hlt : s.txidx < s.pktlen
  · have hlt' : (s.withStale r).txidx < (s.withStale r).pktlen := hlen ▸ hlt
    have hbyte : (s.withStale r).packetByte (s.withStale r).txidx.toNat = s.packetByte s.txidx.toNat := hu.packetByte _
    rw [sendByte, sendByte, if_pos hlt, if_pos hlt', hbyte, withStale_txAnswer]
    cases s.packetByte s.txidx.toNat with
    | error f => exact .fault f
    | ok b =>
      cases s.txAnswer with
      | accept =>
        refine .of_eq (byteSent_withStale b hu.pktlen) (.of_unit hl ?_ ⟨hu.kind, hu.pktlen, hu.packet⟩)
        rw [byteSent_hs]
        split <;> nofun
      | err => exact alikeOut_raiseAbort (s := s.txAnswered) _ hl
      | hold => exact .next (same.env _)
      | never => exact .next same
  · have hlt' : ¬ (s.withStale r).txidx < (s.withStale r).pktlen := hlen ▸ hlt
    rw [sendByte, sendByte, if_neg hlt, if_neg hlt']
    exact .of_eq (r := r) rfl (.of_unit hl nofun ⟨hu.kind, hu.pktlen, hu.packet⟩)

/-! ### The operations of the sequencer -/

/-- `LOAD_PAYLOAD` writes what `PAD` will read (R143). -/
theorem Alike.loaded {src : List Byte} (hl : SameLastResp s r) (hh : s.hs = .idle)
    (hk : r.kind = s.kind) (hfit : src.length ≤ s.blockSize) :
    Alike { Machine.loaded src s with todo := .pad }
      { r with pbuf := memWrite r.pbuf 0 src, plen := BitVec.ofNat 11 src.length } :=
  .of_idle hl hh ⟨hk, src, s.pbuf, r.pbuf, hfit, rfl, rfl, rfl, rfl⟩

/-- `LOAD_PAYLOAD` of the same source bytes, or `FRAMING_ERROR` in both (R143, R243). -/
theorem alikeOut_load {src : List Byte} (hl : SameLastResp s r) (hh : s.hs = .idle)
    (hk : r.kind = s.kind) :
    AlikeOut ((loadPayload src s).thenTodo .pad).out ((loadPayload src (s.withStale r)).thenTodo .pad).out := by
  rw [loadPayload_eq, loadPayload_eq, withStale_blockSize]
  split
  · next hfit => exact .of_eq rfl (.loaded hl hh hk hfit)
  · exact alikeOut_raiseAbort _ hl

/-- Padding what was loaded completes the block (R143, R144). -/
theorem pad_pbuf_of_loaded {src : List Byte} {m : Memory} (hfit : src.length ≤ s.blockSize)
    (hm : s.pbuf = memWrite m 0 src) (hlen : s.plen = BitVec.ofNat 11 src.length) :
    (pad s).pbuf = cellsFrom 0 (padded s.params.padByte s.blockSize src) ++ m.filter fun c => s.blockSize ≤ c.1 := by
  have hplen : s.plen.toNat = src.length := by
    have := blockSize_le s
    rw [hlen, BitVec.toNat_ofNat]
    omega
  rw [pad_pbuf, hplen, hm, load_pad_image hfit]

theorem SameLoaded.pad (h : SameLoaded s r) :
    SameBlock s.blockSize (Machine.pad s).pbuf (Machine.pad (s.withStale r)).pbuf := by
  obtain ⟨src, m, m', hfit, hm, hm', hlen, hlen'⟩ := h
  exact ⟨padded s.params.padByte s.blockSize src, _, _, padded_length hfit, pad_pbuf_of_loaded hfit hm hlen,
    pad_pbuf_of_loaded (s := s.withStale r) hfit hm' hlen'⟩

/-- The sequencer's operation on a response reads none of the registers (R205, R208, R210, R212). -/
theorem alikeOut_respond (hb : s.phase.isBusy = true) (hl : SameLastResp s r)
    (hh : s.hs = .idle) : AlikeOut (.next (respond q s)) (.next (respond q (s.withStale r))) := by
  by_cases hfin : s.phase = .finSent
  · rw [respond_finSent hfin, respond_finSent (s := s.withStale r) hfin]
    exact .of_eq (r := r) rfl (.of_idle hl hh trivial)
  have hp : s.phase = .headerSent ∨ s.phase = .dataLoop ∨ s.phase = .eotSent := by
    cases h : s.phase <;> simp_all [Phase.isBusy]
  obtain ⟨hcancel, hother⟩ := respond_aborts hp
  obtain ⟨hcancel', hother'⟩ := respond_aborts (s := s.withStale r) hp
  cases q with
  | cancel =>
    rw [hcancel, hcancel']
    exact alikeOut_raiseAbort _ hl
  | other b =>
    rw [hother, hother']
    exact alikeOut_raiseAbort _ hl
  | ack =>
    rcases hp with hp | hp | hp
    · rw [respond_ack_headerSent hp, respond_ack_headerSent (s := s.withStale r) hp]
      exact .of_eq (r := r) rfl (.of_idle hl hh trivial)
    · rw [respond_ack_dataLoop hp, respond_ack_dataLoop (s := s.withStale r) hp]
      exact .of_eq (r := r) rfl (.of_idle hl hh trivial)
    · rw [respond_ack_eotSent hp, respond_ack_eotSent (s := s.withStale r) hp]
      exact .of_eq (r := r) rfl (.of_idle hl hh trivial)

/-- An internal operation reads only what the session has written, and writes what is read after it (R203 to R212). -/
theorem alikeOut_runTodo (hb : s.phase.isBusy = true) (hl : SameLastResp s r)
    (hh : s.hs = .idle) (hw : WrittenIdle s r s.todo) :
    AlikeOut (runTodo s).out (runTodo (s.withStale r)).out := by
  unfold runTodo
  rw [withStale_todo]
  cases ht : s.todo <;> rw [ht] at hw
  case none => exact .next (.of_idle hl hh (by rw [ht]; trivial))
  case hdrSend => exact .of_eq (r := { r with kind := .hdr }) rfl (.of_idle hl hh ⟨hw, rfl⟩)
  case hdrEncode =>
    obtain ⟨hfsize, hkind⟩ := hw
    have hf : (s.withStale r).fsize = s.fsize := hfsize
    rw [withStale_params, hf]
    exact alikeOut_load hl hh hkind
  case dataSend chunk => exact alikeOut_load (s := { s with kind := .data }) (r := { r with kind := .data }) hl hh rfl
  case eotSend =>
    exact .of_eq (r := { r with kind := .eot, pktlen := 1#11 }) rfl
      (.of_unit hl nofun ⟨rfl, rfl, fun hne => absurd rfl hne⟩)
  case finEncode => exact alikeOut_load hl hh hw
  case pad =>
    obtain ⟨hkind, hloaded⟩ := hw
    exact .of_eq (r := { r with pbuf := (Machine.pad (s.withStale r)).pbuf }) rfl (.of_idle hl hh ⟨hkind, hloaded.pad⟩)
  case buildPacket =>
    obtain ⟨hkind, hblock⟩ := hw
    obtain ⟨payload, hm, hm'⟩ := hblock.memRead
    rw [buildAndSend_some hm, buildAndSend_some (s := s.withStale r) hm']
    exact .of_eq (r := { r with
        crc := crc16 payload Config.crcInitial, pktlen := BitVec.ofNat 11 (s.blockSize + 5) }) rfl
      (.of_unit hl nofun ⟨hkind, rfl, fun _ => ⟨rfl, hblock⟩⟩)
  case resp q => exact alikeOut_respond hb hl hh

/-! ### The core's own step -/

/-- The file's transactions read none of the registers (R203, R206). -/
theorem alikeOut_sizeProbe (hl : SameLastResp s r) (hh : s.hs = .idle)
    (ht : s.todo = .none) : AlikeOut (sizeProbe s).out (sizeProbe (s.withStale r)).out := by
  have same : Alike s r := .of_idle hl hh (by rw [ht]; trivial)
  unfold sizeProbe
  rw [withStale_sizeAnswer, withStale_env, withStale_params]
  cases s.sizeAnswer with
  | err => exact alikeOut_raiseAbort (s := s.sizeAnswered) _ hl
  | hold => exact .next (same.env _)
  | never => exact .next same
  | answer =>
    dsimp only
    split
    · exact .of_eq (r := { r with fsize := s.env.file.size }) rfl (.of_idle hl hh rfl)
    · exact .refused _

theorem alikeOut_dataRead (hl : SameLastResp s r) (hh : s.hs = .idle)
    (ht : s.todo = .none) : AlikeOut (dataRead s).out (dataRead (s.withStale r)).out := by
  have same : Alike s r := .of_idle hl hh (by rw [ht]; trivial)
  unfold dataRead
  rw [withStale_readAnswer]
  cases s.readAnswer with
  | err => exact alikeOut_raiseAbort (s := s.readFailed) _ hl
  | hold => exact .next (same.env _)
  | never => exact .next same
  | chunk bytes =>
    refine .of_eq (r := r) rfl (.of_idle hl hh ?_)
    show WrittenIdle _ r (if bytes = [] then .eotSend else .dataSend bytes)
    split <;> trivial

/-- Between two units, and inside an operation of the sequencer (R203 to R212). -/
theorem alikeOut_coreStep_idle (h : Alike s r) (hr : s.reservedCode = none) (hb : s.phase.isBusy = true)
    (hh : s.hs = .idle) : AlikeOut (coreStep s) (coreStep (s.withStale r)) := by
  have other := coreStep_idle (s := s.withStale r) hb hh hr
  simp only [withStale_todo, withStale_phase] at other
  rcases coreStep_idle hb hh hr with ⟨ht, e⟩ | ⟨ht, hp, e⟩ | ⟨ht, hp, e⟩ | ⟨ht, hp, e⟩ | ⟨ht, hp, e⟩ <;> rw [e]
  · rw [show coreStep (s.withStale r) = _ by simpa [ht] using other]
    exact alikeOut_runTodo hb h.lastResp hh (h.idle hb hh)
  · rw [show coreStep (s.withStale r) = _ by simpa [ht, hp] using other]
    exact alikeOut_sizeProbe h.lastResp hh ht
  · rw [show coreStep (s.withStale r) = _ by simpa [ht, hp] using other]
    exact alikeOut_dataRead h.lastResp hh ht
  · rw [show coreStep (s.withStale r) = _ by simpa [ht, hp] using other]
    exact .of_eq (r := { r with kind := .fin }) rfl (.of_idle h.lastResp hh rfl)
  · rw [show coreStep (s.withStale r) = _ by simpa [ht, hp] using other]
    exact alikeOut_finish h.lastResp

/-- An instruction at its control point in both machines is its meaning there (R29). -/
theorem alikeOut_exec_of_enabled (hr : s.reservedCode = none) (he : Enabled i s) (he' : Enabled i (s.withStale r))
    (hm : AlikeOut (meaning i s) (meaning i (s.withStale r))) : AlikeOut (exec i s) (exec i (s.withStale r)) := by
  rwa [exec_of_enabled hr he, exec_of_enabled (s := s.withStale r) hr he']

/-- A byte that answers a unit does so in both machines alike (R173, R175, R178 to R180). -/
theorem alikeOut_response {b : Byte} (h : Alike s r) (hr : s.reservedCode = none) (hb : s.phase.isBusy = true)
    (hh : s.hs = .wait) (ha : s.rxAnswer = .byte b) :
    AlikeOut (exec (decodeResponse b) s) (exec (decodeResponse b) (s.withStale r)) := by
  have hu : UnitWritten s r := h.unit hb (by rw [hh]; nofun)
  have hgate : (s.withStale r).gate = s.gate := withStale_gate hu.kind
  have hkind : (s.withStale r).kind = s.kind := hu.kind
  have hsame : SameLastResp (awaited b s) { r with lastResp := b } := fun _ => rfl
  unfold decodeResponse
  split_ifs with hack hca hnak
  · subst hack
    refine alikeOut_exec_of_enabled (i := .rxAck) hr ⟨hb, hh, ha⟩ ⟨hb, hh, ha⟩ ?_
    rw [meaning, meaning, hgate]
    split
    · exact .of_eq rfl (.of_unit hsame nofun ⟨hu.kind, hu.pktlen, hu.packet⟩)
    · exact .of_eq rfl (.of_idle hsame rfl trivial)
  · subst hca
    refine alikeOut_exec_of_enabled (i := .rxCa) hr ⟨hb, hh, ha⟩ ⟨hb, hh, ha⟩ ?_
    exact .of_eq rfl (.of_unit hsame nofun ⟨hu.kind, hu.pktlen, hu.packet⟩)
  · subst hnak
    refine alikeOut_exec_of_enabled (i := .rxNak) hr ⟨hb, hh, ha⟩ ⟨hb, hh, ha⟩ ?_
    rw [meaning, meaning, hkind]
    by_cases hretry : s.kind ≠ .fin ∧ s.retry < s.params.maxRetries
    · rw [if_pos hretry, if_pos (by exact hretry)]
      exact .of_eq rfl (.of_unit hsame nofun ⟨hu.kind, hu.pktlen, hu.packet⟩)
    · rw [if_neg hretry, if_neg (by exact hretry)]
      exact .of_eq rfl (.of_idle hsame rfl trivial)
  · refine alikeOut_exec_of_enabled (i := .rxOther b) hr ⟨hb, hh, ha⟩ ⟨hb, hh, ha⟩ ?_
    exact .of_eq rfl (.of_idle hsame rfl trivial)

/-- The core's step is the instruction that was fetched (R29). -/
theorem coreStep_of_run (h : coreFetch s = .run i s) : coreStep s = exec i s := by rw [coreStep, h]

/-- A blocking read: its byte is run, its failure aborts, and with no answer both wait (R172, R178). -/
theorem alikeOut_coreStep_read {p : ReadPoint} (h : Alike s r) (hf : coreFetch s = fetchRead p s)
    (hf' : coreFetch (s.withStale r) = fetchRead p (s.withStale r))
    (hbyte : ∀ b, s.rxAnswer = .byte b →
      ∃ i, decode p [b] = .ok i ∧ AlikeOut (exec i s) (exec i (s.withStale r))) :
    AlikeOut (coreStep s) (coreStep (s.withStale r)) := by
  cases ha : s.rxAnswer with
  | byte b =>
    obtain ⟨i, hd, hi⟩ := hbyte b ha
    rwa [coreStep_of_run (hf.trans (fetchRead_byte ha hd)),
      coreStep_of_run (hf'.trans (fetchRead_byte (s := s.withStale r) ha hd))]
  | err =>
    simp only [coreStep, hf, hf', fetchRead, withStale_rxAnswer, ha]
    exact alikeOut_raiseAbort (s := s.rxFailed) _ h.lastResp
  | timeout =>
    simp only [coreStep, hf, hf', fetchRead, withStale_rxAnswer, ha]
    exact alikeOut_raiseAbort (s := s.rxFailed) _ h.lastResp
  | wait =>
    simp only [coreStep, hf, hf', fetchRead, withStale_rxAnswer, ha]
    exact .next h

/-- The one poll after a gated `ACK` (R176, R246). -/
theorem alikeOut_coreStep_probe (h : Alike s r) (hr : s.reservedCode = none) (hb : s.phase.isBusy = true)
    (hh : s.hs = .probe) : AlikeOut (coreStep s) (coreStep (s.withStale r)) := by
  have hf : coreFetch s = fetchPoll s := coreFetch_probe hb hh
  have hf' : coreFetch (s.withStale r) = fetchPoll (s.withStale r) := coreFetch_probe (s := s.withStale r) hb hh
  cases ha : s.pollAnswer with
  | got o =>
    have hd : decode .extra o.toList = .ok (.rxExtraAny o) := by cases o <;> rfl
    rw [coreStep_of_run (hf.trans (fetchPoll_got ha hd)),
      coreStep_of_run (hf'.trans (fetchPoll_got (s := s.withStale r) ha hd))]
    refine alikeOut_exec_of_enabled (i := .rxExtraAny o) hr ⟨hb, hh, ha⟩ ⟨hb, hh, ha⟩ ?_
    rw [meaning, meaning, pollTook_eq, pollTook_eq]
    exact .of_eq (r := r) rfl (.of_idle h.lastResp rfl trivial)
  | err =>
    simp only [coreStep, hf, hf', fetchPoll, withStale_pollAnswer, ha]
    exact alikeOut_raiseAbort (s := s.pollFailed) _ h.lastResp

theorem alikeOut_coreStep (h : Alike s r) (hr : s.reservedCode = none) :
    AlikeOut (coreStep s) (coreStep (s.withStale r)) := by
  cases hb : s.phase.isBusy with
  | false =>
    rw [coreStep_idle_phase hb, coreStep_idle_phase (s := s.withStale r) hb]
    exact .next h
  | true =>
    obtain ⟨-, hres, -⟩ := reservedCode_eq_none.mp hr
    cases hh : s.hs with
    | idle => exact alikeOut_coreStep_idle h hr hb hh
    | tx =>
      rw [coreStep_tx hb hh hr, coreStep_tx (s := s.withStale r) hb hh hr]
      exact alikeOut_sendByte h.lastResp hh (h.unit hb (by rw [hh]; nofun))
    | wait =>
      exact alikeOut_coreStep_read h (coreFetch_wait hb hh) (coreFetch_wait (s := s.withStale r) hb hh)
        fun b ha => ⟨_, rfl, alikeOut_response h hr hb hh ha⟩
    | ca2 =>
      exact alikeOut_coreStep_read h (coreFetch_ca2 hb hh) (coreFetch_ca2 (s := s.withStale r) hb hh)
        fun b ha => ⟨.rxCa2Any b, rfl, alikeOut_exec_of_enabled (i := .rxCa2Any b) hr ⟨hb, hh, ha⟩ ⟨hb, hh, ha⟩
          (.of_eq (r := r) rfl (.of_idle h.lastResp rfl trivial))⟩
    | probe => exact alikeOut_coreStep_probe h hr hb hh
    | reserved5 | reserved6 | reserved7 => rw [hh] at hres; cases hres

/-! ### Any step, and any number of steps -/

/-- A session's start asks for none of the registers, and after it none of them is read before it is written
(R201, R202). -/
theorem alikeOut_execHostStart (h : Alike s r) : AlikeOut (execHostStart s) (execHostStart (s.withStale r)) := by
  have hl : (s.withStale r).launchable = s.launchable := rfl
  have hb : (s.withStale r).busy = s.busy := rfl
  unfold execHostStart atControl
  rw [withStale_reservedCode, withStale_env, withStale_params, hl, hb]
  cases s.reservedCode with
  | some f => exact .fault f
  | none =>
    dsimp only
    split_ifs
    · exact .next (h.env _)
    · exact .refused _
    · exact .refused _
    · exact .of_eq (r := r) rfl (.of_idle nofun rfl trivial)
    · exact .refused _

theorem alikeOut_hostUses (h : Alike s r) (e : Env) :
    AlikeOut (hostUses s { s with env := e }) (hostUses (s.withStale r) { s.withStale r with env := e }) := by
  unfold hostUses
  rw [show (s.withStale r).busy = s.busy from rfl]
  split
  · exact .refused _
  · exact .next (h.env e)

theorem alikeOut_coreTurn (hc : CoreTurn s) (h : Alike s r) : AlikeOut (step s) (step (s.withStale r)) := by
  cases hr : s.reservedCode with
  | some f =>
    rw [step_coreTurn_reserved hc hr, step_coreTurn_reserved (s := s.withStale r) hc hr]
    exact .fault f
  | none =>
    rw [step_eq_coreStep hc hr, step_eq_coreStep (s := s.withStale r) hc hr]
    exact alikeOut_coreStep (h.env _) hr

/-- Every step keeps the two machines alike, whoever moves (R20, R49, R201). -/
theorem alikeOut_step (h : Alike s r) : AlikeOut (step s) (step (s.withStale r)) := by
  cases hs : s.env.sched with
  | nil => exact alikeOut_coreTurn (.inl hs) h
  | cons m rest =>
    have hs' : (s.withStale r).env.sched = m :: rest := hs
    cases m with
    | core => exact alikeOut_coreTurn (.inr (by rw [hs]; rfl)) h
    | hostStart =>
      rw [step_hostStart (s := s) (by rw [hs]; rfl), step_hostStart (s := s.withStale r) (by rw [hs']; rfl)]
      exact alikeOut_execHostStart h
    | reset =>
      simp only [step, fetch, hs, hs']
      exact .of_eq (r := (resetCore s.moved).stale) rfl (.of_notBusy nofun rfl)
    | receiver b =>
      simp only [step, fetch, hs, hs']
      exact .next (h.env _)
    | handOver n d =>
      simp only [step, fetch, hs, hs']
      exact alikeOut_hostUses h _
    | drain =>
      simp only [step, fetch, hs, hs']
      exact alikeOut_hostUses h _

/-- So does any number of steps. -/
theorem alikeOut_stepsFrom (n : Nat) (h : Alike s r) : AlikeOut (stepsFrom n s) (stepsFrom n (s.withStale r)) := by
  induction n generalizing s r with
  | zero => exact .next h
  | succ n ih =>
    have hstep := alikeOut_step h
    generalize hs : step s = o, ht : step (s.withStale r) = o' at hstep
    cases hstep with
    | next hu =>
      rw [stepsFrom_succ hs, stepsFrom_succ ht]
      exact ih hu
    | fault f =>
      rw [stepsFrom_fault hs, stepsFrom_fault ht]
      exact .fault f
    | refused e =>
      rw [stepsFrom_refused hs, stepsFrom_refused ht]
      exact .refused e

/-- What an observer relies on does not show a register that was not written (R48, R274). -/
theorem Alike.view_eq (h : Alike s r) : view s = view (s.withStale r) := by
  have hv : (s.withStale r).lastRespValid = s.lastRespValid := rfl
  have hresp : (if s.lastRespValid then s.lastResp else 0#8) = if s.lastRespValid then r.lastResp else 0#8 := by
    split
    · next hvalid => exact (h.lastResp hvalid).symm
    · rfl
  simp only [view, hv, hresp]
  rfl

theorem AlikeOut.sameOutcome {a b : Out} (h : AlikeOut a b) : SameOutcome a b := by
  cases h with
  | next h => exact h.view_eq
  | fault => rfl
  | refused => rfl

end Sys2Proof.Machine

/-! ### The obligations -/

namespace Sys2Proof

open Machine

/-- Settles O58: a data packet has the number it had at the read and is no header, so the gate is closed and one step
reads the `ACK`. -/
theorem dataPacketCycle : Obligations.DataPacketCycle := by
  intro s chunk h hp hh ht hsched hread hne hlen hseq ha hacc
  have hgate : (dataSource chunk s).gate = false := by
    rw [Bool.eq_false_iff, Ne, gate_iff]
    rintro ⟨-, ⟨hzero, hnum⟩ | ⟨-, hkind⟩⟩
    · exact hseq hzero hnum
    · cases hkind
  have hrun := stepsFrom_dataAcknowledged h hp hh ht hsched hread hne hlen ha hacc (by rw [hgate]; nofun)
  rw [dataAcknowledged_eq hp, ackSteps, hgate] at hrun
  exact ⟨_, hrun, hp, rfl, rfl, rfl, rfl, rfl, rfl, rfl, rfl, rfl⟩

/-- Settles O59: the launch, then the opening header, the data packets by induction on their number, the `EOT` and the
closing header, each sent and acknowledged; what each wrote, read and consumed is added up. -/
theorem acknowledgedSession : Obligations.AcknowledgedSession := by
  intro s data n pad header h hb hw hl hsize hsched htx hrx hsizes hreads hpolls habsent
  have he : (launched (n + 3) s).env.Acks (n + 3) (n + 2) :=
    ⟨rfl, htx, hrx, hsizes, hreads, by simp [launched, hl.rxQueueEmpty], habsent, hpolls⟩
  have hfits : s.env.file.size < 2 ^ s.params.sizeBits := by
    have hfile := hl.fileAtZero
    simp only [State.fileAtZero, Bool.and_eq_true, decide_eq_true_eq] at hfile
    exact hfile.2
  obtain ⟨k, t, hrun, ht⟩ := runsToEnd_session h hb hw hl rfl hsched he
  have hhdr : hdrPacket s.params s.env.file.size
      = encodePacket 0x01#8 ⟨0x00#8, header ++ List.replicate (128 - header.length) pad⟩ := by
    rw [hsize]
    rfl
  have hdata : dataPackets pad 1#8 data n = (List.range n).flatMap (fun j => encodePacket 0x02#8
      ⟨BitVec.ofNat 8 (j + 1), padded pad 1024 ((data.drop (1024 * j)).take 1024)⟩) := by
    simp only [Nat.add_comm _ 1, BitVec.ofNat_add]
    rfl
  have hfin : finPacket pad
      = encodePacket 0x01#8 ⟨0x00#8, [0x00#8, 0x30#8, 0x20#8] ++ List.replicate 125 pad⟩ := rfl
  have hwire : t.env.wire = s.env.wire ++ hdrPacket s.params s.env.file.size ++ dataPackets pad 1#8 data n
      ++ [0x04#8] ++ finPacket pad := by
    rw [ht.wire, afterHeader]
    simp only [List.append_assoc]
    rfl
  refine ⟨k, t, hrun, ht.phase, ht.status, ht.fclosed, ht.isOpen, ht.lastResp, ht.lastRespValid, ?_, ?_,
    ht.fileReads, ht.rxTaken⟩
  · rw [hwire, hhdr, hdata, hfin]
  · rw [hwire]
    simp only [List.length_append, hdrPacket_length hw hfits, dataPackets_length, List.length_singleton,
      finPacket_length]
    omega

/-- Settles O60: outside a session the two machines are alike, every step keeps them so, and alike machines show an
observer the same. -/
theorem staleRegistersNeverRead : Obligations.StaleRegistersNeverRead := by
  intro n s t hb ht hl
  rw [show t = s.withStale t.stale from ht]
  exact (alikeOut_stepsFrom n (.of_notBusy hl hb)).sameOutcome

/-- Settles O53: a step that answers the same state does so for ever. -/
theorem outsideSessionIdle : Obligations.OutsideSessionIdle :=
  fun n _ hb hr hsched => stepsFrom_fixed (step_outside_session_of_sched_nil hb hr hsched) n

/-- Settles O37: the parameters and the four premises are all that the command asks for. -/
theorem hostStartCompletes : Obligations.HostStartCompletes := by
  intro s hp hh hst hhead hw hchannel hcrc hqueue hfile
  have hb : s.phase.isBusy = false := by rcases hp with hp | hp | hp <;> rw [hp] <;> rfl
  have hne : s.phase ≠ .reserved7 := by rcases hp with hp | hp | hp <;> rw [hp] <;> nofun
  have hr : s.reservedCode = none := reservedCode_eq_none.mpr ⟨hne, hh, hst⟩
  have hl : s.launchable = true := by simp [State.launchable, hchannel, hcrc, hqueue, hfile]
  rw [exec_hostStart, execHostStart_launches hr hb hhead hw hl]
  rfl

/-- Settles O38: `BUSY` is looked at before anything else, and only the schedule's move is made. -/
theorem hostStartIgnoredWhileBusy : Obligations.HostStartIgnoredWhileBusy := by
  intro s hb hh hst hhead
  have hr : s.reservedCode = none := reservedCode_eq_none.mpr ⟨busy_ne_reserved hb, hh, hst⟩
  rw [exec_hostStart, execHostStart_busy hr hb hhead]
  rfl

end Sys2Proof
end

section
/-!
SUPPORT. The statements of spec/60_exceptions.md: with the invariant every step answers, or is refused for what the host
or the file does outside the spec (R241, R252); what an abort leaves as it was (R242, R248); the points at which the
core waits for ever (R253); and why no step raises `FRAMING_ERROR` where the inputs keep their bounds (R243, R63).
-/

namespace Sys2Proof.Machine

variable {s t : State}

/-! ### With the invariant an operation answers a next state -/

/-- With the invariant no register holds a reserved code, in a session or outside one (R30, R31, R40). -/
theorem CoreInv.noReservedCode (h : CoreInv s) : s.reservedCode = none := by
  cases hb : s.phase.isBusy with
  | false => exact h.reservedCode_eq_none hb
  | true =>
    have hfits := h.hsFits
    refine Machine.reservedCode_eq_none.mpr ⟨busy_ne_reserved hb, ?_, by rw [(h.busy hb).1]; nofun⟩
    cases hh : s.hs with
    | idle | tx | wait | ca2 | probe => rfl
    | reserved5 | reserved6 | reserved7 => simp [State.hsFits, hh] at hfits

/-- An operation that goes on or aborts answers a next state (R242). -/
theorem ite_out_answers (c : Prop) [Decidable c] (st : Status) (u v : State) :
    ∃ t, (if c then Flow.go u else .raise st v).out = .next t := by
  split
  · exact ⟨u, rfl⟩
  · exact ⟨raiseAbort st v, rfl⟩

/-- Where `BUILD_PACKET` is next, every byte of the block holds a value, so no internal operation stops (R49, R144). -/
theorem CoreInv.runTodo_answers (h : CoreInv s) (hh : s.hs = .idle) : ∃ t, (runTodo s).out = .next t := by
  rcases runTodo_cases s with ⟨-, e⟩ | ⟨-, e⟩ | ⟨-, e⟩ | ⟨chunk, -, e⟩ | ⟨-, e⟩ | ⟨-, e⟩ | ⟨-, e⟩ | ⟨ht, e⟩ |
    ⟨r, -, e⟩ <;> rw [e]
  · exact ⟨_, rfl⟩
  · exact ⟨_, rfl⟩
  · exact ite_out_answers _ _ _ _
  · exact ite_out_answers _ _ _ _
  · exact ⟨_, rfl⟩
  · exact ⟨_, rfl⟩
  · exact ⟨_, rfl⟩
  · have hidle := h.idle hh
    simp only [State.idleFits, ht, Bool.and_eq_true] at hidle
    obtain ⟨-, hblock⟩ := hidle
    obtain ⟨payload, hm⟩ := Option.isSome_iff_exists.mp hblock
    rw [hm]
    exact ⟨_, rfl⟩
  · exact ⟨_, rfl⟩

theorem memRead_of_crcFits (h : s.crcFits = true) : ∃ payload, memRead s.pbuf 0 s.blockSize = some payload := by
  unfold State.crcFits at h
  split at h
  next payload hm => exact ⟨payload, hm⟩
  next => cases h

/-- Where the registers describe the unit that the phase sends, each of its bytes holds a value (R148, R149). -/
theorem unitBytes_of_unitFits (h : s.unitFits = true) : ∃ bytes, s.unitBytes = some bytes := by
  by_cases hk : s.kind = .eot
  · exact ⟨_, unitBytes_eq_some_iff.mpr (.inl ⟨hk, rfl⟩)⟩
  · have hcrc : s.crcFits = true := by
      unfold State.unitFits at h
      split at h <;> simp_all
    obtain ⟨payload, hm⟩ := memRead_of_crcFits hcrc
    exact ⟨_, unitBytes_eq_some_iff.mpr (.inr ⟨hk, payload, hm, rfl⟩)⟩

/-- The byte that is next in `HS_TX` is one of the unit's, so a turn of `SEND` does not stop (R49, R149, R171). -/
theorem CoreInv.sendByte_answers (h : CoreInv s) (hh : s.hs = .tx) : ∃ t, sendByte s = .next t := by
  obtain ⟨-, hfits, hlt⟩ := (hsFits_tx hh).mp h.hsFits
  obtain ⟨bytes, hu⟩ := unitBytes_of_unitFits hfits
  have hin : s.txidx.toNat < bytes.length := by
    rw [← unitBytes_length h.pbufWf hfits hu]
    exact hlt
  have hb := packetByte_of_unitBytes h.pbufWf hu (List.getElem?_eq_getElem hin)
  simp only [sendByte, if_pos hlt, hb]
  cases s.txAnswer <;> exact ⟨_, rfl⟩

/-- A response byte that was read is at its instruction's control point (R92, R173). -/
theorem exec_response_answers {b : Byte} (hr : s.reservedCode = none) (hb : s.phase.isBusy = true) (hh : s.hs = .wait)
    (ha : s.rxAnswer = .byte b) : ∃ t, exec (decodeResponse b) s = .next t := by
  rcases exec_decodeResponse b s with ⟨rfl, e⟩ | ⟨rfl, e⟩ | ⟨rfl, e⟩ | ⟨-, -, -, e⟩ <;> rw [e]
  · exact ⟨_, execRxAck_next.mpr ⟨hr, hb, hh, ha, rfl⟩⟩
  · exact ⟨_, execRxCa_next.mpr ⟨hr, hb, hh, ha, rfl⟩⟩
  · exact ⟨_, execRxNak_next.mpr ⟨hr, hb, hh, ha, rfl⟩⟩
  · exact ⟨_, execRxOther_next.mpr ⟨hr, hb, hh, ha, rfl⟩⟩

/-! ### With the invariant a step answers, or has a cause outside the spec to be refused -/

/-- The file is too long for `SIZE_BITS`, and its size is asked for (spec/93_implementation_defined.md I9). -/
def TooLongAtProbe (s : State) : Prop :=
  s.phase = .headerSent ∧ s.hs = .idle ∧ 2 ^ s.params.sizeBits ≤ s.env.file.size

/-- What the host or the file does outside the spec where a step answers the refusal `r`
(spec/93_implementation_defined.md I9, O2, O3). -/
def RefusalCause (s : State) (r : Refusal) : Prop :=
  (s.env.sched.head? = some .hostStart ∧ (r = .illFormedParams ∨ r = .launchPremiseBroken))
  ∨ (r = .hostBreaksOwnership ∧ s.phase.isBusy = true)
  ∨ (r = .fileTooLong ∧ TooLongAtProbe s)

/-- The core's own step answers a next state, or meets a file that is too long (R203, R241). -/
theorem CoreInv.coreStep_answers (h : CoreInv s) :
    (∃ t, coreStep s = .next t) ∨ (coreStep s = .refused .fileTooLong ∧ TooLongAtProbe s) := by
  have hr := h.noReservedCode
  cases hb : s.phase.isBusy with
  | false => exact .inl ⟨s, coreStep_idle_phase hb⟩
  | true =>
    obtain ⟨-, hres, -⟩ := Machine.reservedCode_eq_none.mp hr
    cases hh : s.hs with
    | idle =>
      rcases coreStep_idle hb hh hr with ⟨-, e⟩ | ⟨-, hp, e⟩ | ⟨-, -, e⟩ | ⟨-, -, e⟩ | ⟨-, -, e⟩ <;> rw [e]
      · exact .inl (h.runTodo_answers hh)
      · rcases sizeProbe_cases s with ⟨-, e⟩ | ⟨-, e⟩ | ⟨-, e⟩ | ⟨-, hlong, e⟩ | ⟨-, -, e⟩ <;> rw [e]
        · exact .inl ⟨_, rfl⟩
        · exact .inl ⟨_, rfl⟩
        · exact .inl ⟨_, rfl⟩
        · exact .inr ⟨rfl, hp, hh, Nat.not_lt.mp hlong⟩
        · exact .inl ⟨_, rfl⟩
      · rcases dataRead_cases s with ⟨-, e⟩ | ⟨-, e⟩ | ⟨-, e⟩ | ⟨-, e⟩ | ⟨chunk, -, -, e⟩ <;> rw [e] <;>
          exact .inl ⟨_, rfl⟩
      · exact .inl ⟨_, rfl⟩
      · exact .inl ⟨_, rfl⟩
    | tx =>
      rw [coreStep_tx hb hh hr]
      exact .inl (h.sendByte_answers hh)
    | wait =>
      rcases coreStep_wait hb hh with ⟨b, ha, e⟩ | ⟨-, e⟩ | ⟨-, e⟩ | ⟨-, e⟩ <;> rw [e]
      · exact .inl (exec_response_answers hr hb hh ha)
      all_goals exact .inl ⟨_, rfl⟩
    | ca2 =>
      rcases coreStep_ca2 hb hh with ⟨b, ha, e⟩ | ⟨-, e⟩ | ⟨-, e⟩ | ⟨-, e⟩ <;> rw [e]
      · exact .inl ⟨_, execRxCa2Any_next.mpr ⟨hr, hb, hh, ha, rfl⟩⟩
      all_goals exact .inl ⟨_, rfl⟩
    | probe =>
      rcases coreStep_probe hb hh with ⟨o, ha, e⟩ | ⟨-, e⟩ <;> rw [e]
      · exact .inl ⟨_, execRxExtraAny_next.mpr ⟨hr, hb, hh, ha, rfl⟩⟩
      · exact .inl ⟨_, rfl⟩
    | reserved5 | reserved6 | reserved7 => rw [hh] at hres; cases hres

/-- A command that starts no session is used up or refused for the parameters or the premises (R10, R202, R272). -/
theorem execHostStart_answers (hr : s.reservedCode = none) (hh : s.env.sched.head? = some .hostStart) :
    (∃ t, execHostStart s = .next t) ∨ execHostStart s = .refused .illFormedParams
      ∨ execHostStart s = .refused .launchPremiseBroken := by
  cases hb : s.phase.isBusy with
  | true => exact .inl ⟨_, execHostStart_busy hr hb hh⟩
  | false =>
    rw [execHostStart_notBusy hr hb hh]
    split
    · exact .inr (.inl rfl)
    · split
      · exact .inr (.inr rfl)
      · exact .inl ⟨_, rfl⟩

/-- A move of the host on the channel or the file is made outside a session and refused inside one (R273). -/
theorem hostUses_answers (s u : State) :
    hostUses s u = .next u ∨ (hostUses s u = .refused .hostBreaksOwnership ∧ s.phase.isBusy = true) := by
  unfold hostUses
  split
  case isTrue hb => exact .inr ⟨rfl, hb⟩
  case isFalse => exact .inl rfl

/-- A step from a state that keeps the invariant answers a next state, or a refusal that has its cause (R241, R252). -/
theorem step_answers (h : CoreInv s) :
    (∃ t, step s = .next t) ∨ ∃ r, step s = .refused r ∧ RefusalCause s r := by
  have hostUse (u : State) : (∃ t, hostUses s u = .next t) ∨ ∃ r, hostUses s u = .refused r ∧ RefusalCause s r :=
    (hostUses_answers s u).imp (fun e => ⟨u, e⟩) fun ⟨e, hb⟩ => ⟨_, e, .inr (.inl ⟨rfl, hb⟩)⟩
  have hr := h.noReservedCode
  rcases step_cases s with ⟨-, -, e⟩ | ⟨-, f, hf, -⟩ | ⟨hh, e⟩ | ⟨-, e⟩ | ⟨b, -, e⟩ | ⟨n, d, -, e⟩ | ⟨-, e⟩
  · rw [e, turn_eq]
    exact (h.env _).coreStep_answers.imp_right fun ⟨e, hlong⟩ => ⟨_, e, .inr (.inr ⟨rfl, hlong⟩)⟩
  · rw [hr] at hf; cases hf
  · rw [e]
    rcases execHostStart_answers hr hh with hnext | e | e
    · exact .inl hnext
    · exact .inr ⟨_, e, .inl ⟨hh, .inl rfl⟩⟩
    · exact .inr ⟨_, e, .inl ⟨hh, .inr rfl⟩⟩
  · exact .inl ⟨_, e⟩
  · exact .inl ⟨_, e⟩
  · rw [e]; exact hostUse _
  · rw [e]; exact hostUse _

/-! ### What an abort leaves as it was -/

/-- No byte was written, read or taken from the file between `e` and `f` (R48, R248). -/
structure SameBytes (e f : Env) : Prop where
  wire : f.wire = e.wire
  rxQueue : f.rxQueue = e.rxQueue
  rxTaken : f.rxTaken = e.rxTaken
  cursor : f.file.cursor = e.file.cursor
  data : f.file.data = e.file.data

theorem SameBytes.trans {e f g : Env} (h : SameBytes e f) (h' : SameBytes f g) : SameBytes e g :=
  ⟨h'.wire.trans h.wire, h'.rxQueue.trans h.rxQueue, h'.rxTaken.trans h.rxTaken, h'.cursor.trans h.cursor,
    h'.data.trans h.data⟩

/-- Before an abort only `KIND`, at a chunk that is too long, the draws and the count of `FileRead`s were written (R26,
R207, R242). -/
theorem BeforeAbort.kept {st : Status} {u : State} (h : BeforeAbort s st u) :
    ∃ (k : Kind) (e : Env), u = { s with kind := k, env := e } ∧ (st ≠ .framingError → k = s.kind)
      ∧ SameBytes s.env e := by
  rcases h with rfl | ⟨rfl, rfl⟩ | ⟨-, -, -, -, rfl⟩ | ⟨-, -, -, -, rfl⟩ | ⟨-, -, rfl⟩ | ⟨-, -, rfl⟩ | ⟨-, -, rfl⟩
  · exact ⟨_, _, rfl, fun _ => rfl, ⟨rfl, rfl, rfl, rfl, rfl⟩⟩
  · exact ⟨.data, _, rfl, fun hne => absurd rfl hne, ⟨rfl, rfl, rfl, rfl, rfl⟩⟩
  · exact ⟨_, s.sizeAnswered.env, rfl, fun _ => rfl, ⟨rfl, rfl, rfl, rfl, rfl⟩⟩
  · exact ⟨_, s.readFailed.env, rfl, fun _ => rfl, ⟨rfl, rfl, rfl, rfl, rfl⟩⟩
  · exact ⟨_, s.txAnswered.env, rfl, fun _ => rfl, ⟨rfl, rfl, rfl, rfl, rfl⟩⟩
  · exact ⟨_, s.rxFailed.env, rfl, fun _ => rfl, ⟨rfl, rfl, rfl, rfl, rfl⟩⟩
  · exact ⟨_, s.pollFailed.env, rfl, fun _ => rfl, ⟨rfl, rfl, rfl, rfl, rfl⟩⟩

/-- Each cause of an abort has a status of its own, which is none of a session that runs or succeeded (R240). -/
theorem AbortCause.status_ne (h : AbortCause s t) : t.status ≠ .none ∧ t.status ≠ .success := by
  rcases h with ⟨e, -⟩ | ⟨e, -⟩ | ⟨e, -⟩ | ⟨e, -⟩ | ⟨e, -⟩ <;> rw [e] <;> exact ⟨nofun, nofun⟩

/-- `raise Abort` is the only way into `ABORTED` (R242). -/
theorem CoreMove.aborted (hm : CoreMove s t) (hs : s.phase ≠ .aborted) (ht : t.phase = .aborted) :
    ∃ st u, BeforeAbort s st u ∧ AbortCause s t ∧ t = raiseAbort st u := by
  cases hm with
  | aborts _ hu cause => exact ⟨_, _, hu, cause, rfl⟩
  | held hu => obtain ⟨e, -, rfl⟩ := hu.eq_env; exact absurd ht hs
  | probed => rw [returned_phase, pollTook_eq] at ht; exact absurd ht hs
  | beginsFin | ends | beginsEot | acksHdr => cases ht
  | _ => exact absurd ht hs

theorem step_aborted (hstep : step s = .next t) (hs : s.phase ≠ .aborted) (ht : t.phase = .aborted) :
    ∃ st u, BeforeAbort s.moved st u ∧ AbortCause s.moved t ∧ t = raiseAbort st u := by
  rcases step_next hstep with hm | ⟨-, -, -, rfl⟩ | ⟨-, rfl⟩ | ⟨e, -, rfl⟩
  · exact hm.aborted hs ht
  · cases ht
  · cases ht
  · exact absurd ht hs

/-- All that `raise Abort(st)` writes (R242). -/
theorem raiseAbort_eq (st : Status) (s : State) :
    raiseAbort st s = { s with
      hs := .idle, todo := .none, fclosed := true, status := st, phase := .aborted, env := s.closeFile.env } := by
  simp only [raiseAbort, State.closeFile]
  cases hf : s.fclosed <;> rfl

/-- `CLOSE` moves no byte (R213). -/
theorem closeFile_sameBytes (s : State) : SameBytes s.env s.closeFile.env := by
  rw [closeFile_env]
  split <;> exact ⟨rfl, rfl, rfl, rfl, rfl⟩

theorem closeFile_isOpen (h : s.fclosed = false) : s.closeFile.env.file.isOpen = false := by
  rw [closeFile_env, h]
  rfl

/-! ### The points at which the core waits -/

/-- Nothing to read in `HS_WAIT` or `HS_CA2` (R172, R178, R253). -/
theorem step_waits_read (hs : BusyAt s .wait ∨ BusyAt s .ca2) (hsched : s.env.sched = []) (ha : s.rxAnswer = .wait) :
    step s = .next s := by
  rcases hs with hs | hs <;> rw [step_of_sched_nil hsched (reservedCode_of_busyAt hs rfl)]
  · simpa [ha] using coreStep_wait hs.1 hs.2.1
  · simpa [ha] using coreStep_ca2 hs.1 hs.2.1

/-- A `TxWrite` that is never answered (R23, R253). -/
theorem step_waits_write {b : Byte} (hs : BusyAt s .tx) (hsched : s.env.sched = []) (ha : s.txAnswer = .never)
    (hlt : s.txidx < s.pktlen) (hb : s.packetByte s.txidx.toNat = .ok b) : step s = .next s := by
  rw [step_tx hs hsched]
  simp only [sendByte, if_pos hlt, hb, ha]

/-- A `FileSize` that is never answered (R203, R253). -/
theorem step_waits_size (hs : Between s .headerSent .none) (hsched : s.env.sched = []) (ha : s.sizeAnswer = .never) :
    step s = .next s := by
  have ⟨⟨hp, hh, _⟩, ht⟩ := hs
  have hn : ¬ AnswerPending s := by rw [AnswerPending, ht]; nofun
  rw [step_of_sched_nil hsched (reservedCode_of_between hs rfl), coreStep, coreFetch_idle (by rw [hp]; rfl) hh,
    fetchIdle_headerSent hp hn]
  simp only [exec_pkt128Hdr_first hs, sizeProbe, ha, out_go]

/-- A `FileRead` that is never answered (R206, R253). -/
theorem step_waits_file (hs : Between s .dataLoop .none) (hsched : s.env.sched = []) (ha : s.readAnswer = .never) :
    step s = .next s := by
  have ⟨⟨hp, hh, _⟩, ht⟩ := hs
  have hn : ¬ AnswerPending s := by rw [AnswerPending, ht]; nofun
  have he : ¬ EotNext s := by rw [EotNext, ht, ha]; nofun
  rw [step_of_sched_nil hsched (reservedCode_of_between hs rfl), coreStep, coreFetch_idle (by rw [hp]; rfl) hh,
    fetchIdle_dataLoop hp hn he]
  simp only [exec_pkt1024Data_first hs (by simp [ha]), dataRead, ha, out_go]

/-! ### Why no step raises `FRAMING_ERROR` -/

/-- The header fields of a measured file fit any block, and a chunk that keeps the bound fits the block of a data
packet; so `LOAD_PAYLOAD` finds nothing too long, and an abort has another cause (R63, R143, R146). -/
theorem CoreInv.abort_not_framingError (h : CoreInv s) (hw : s.params.wellFormed = true) (hfile : FileKeepsBound s)
    (hcause : AbortCause s t) : t.status ≠ .framingError := by
  intro hst
  rcases hcause with ⟨-, hh, ⟨-, hlong⟩ | ⟨chunk, ht, hlong⟩⟩ | ⟨e, -⟩ | ⟨e, -⟩ | ⟨e, -⟩ | ⟨e, -⟩
  · have hfits := headerFields_fits hw h.fsizeBound
    rcases blockSize_cases s with hs | hs <;> omega
  · have hidle := h.idle hh
    simp only [State.idleFits, ht, Bool.and_eq_true] at hidle
    obtain ⟨⟨-, hb⟩, -⟩ := hidle
    have hbs := blockSize_of_bsel_true hb
    have hbound := hfile.chunk chunk ht
    omega
  all_goals rw [e] at hst; cases hst

/-- A move of the core leaves `STATUS` as it is, ends the session with success, or aborts it (R40, R240). -/
theorem CoreMove.status_eq (hm : CoreMove s t) : t.status = s.status ∨ t.status = .success ∨ AbortCause s t := by
  cases hm with
  | aborts _ _ cause => exact .inr (.inr cause)
  | ends => exact .inr (.inl rfl)
  | held hu => obtain ⟨e, -, rfl⟩ := hu.eq_env; exact .inl rfl
  | probed => rw [returned_status, pollTook_eq]; exact .inl rfl
  | _ => exact .inl rfl

/-- A source that keeps its bound never gives more than 1024 bytes in one read (R63). -/
theorem FileKeepsBound.chunk_length {chunk : List Byte} (h : FileKeepsBound s) (ha : s.readAnswer = .chunk chunk) :
    chunk.length ≤ 1024 := by
  unfold State.readAnswer at ha
  split at ha <;> cases ha
  next => exact List.length_take_le _ _
  next more hhead =>
    have hmem : ReadDraw.give more ∈ s.env.readDraws := by
      cases hds : s.env.readDraws with
      | nil => rw [hds] at hhead; cases hhead
      | cons d ds => rw [hds] at hhead; exact List.mem_cons.mpr (.inl hhead.symm)
    exact (List.length_take_le _ _).trans (h.draws more hmem)

/-- The file source keeps its bound where no draw is added and the chunk to load, if there is one, was next before or is
the one just read (R63). -/
theorem FileKeepsBound.of_suffix (h : FileKeepsBound s) (hd : t.env.readDraws <:+ s.env.readDraws)
    (hc : ∀ chunk, t.todo = .dataSend chunk → s.todo = .dataSend chunk ∨ s.readAnswer = .chunk chunk) :
    FileKeepsBound t :=
  ⟨fun more hmem => h.draws more (hd.subset hmem), fun chunk ht => (hc chunk ht).elim (h.chunk chunk) h.chunk_length⟩

/-- A transaction uses up one draw of `FileRead` at most (R25). -/
theorem AtMostOneTransaction.readDraws_suffix {e f : Env} (h : AtMostOneTransaction s e f) :
    f.readDraws <:+ e.readDraws := by
  rcases h with rfl | ⟨-, -, b, -, rfl⟩ | ⟨-, -, rfl⟩ | ⟨-, b, -, -, rfl⟩ | ⟨-, -, rfl⟩ | ⟨-, o, -, rfl⟩ |
    ⟨-, -, rfl⟩ | ⟨-, -, -, rfl⟩ | ⟨-, -, -, c, -, rfl⟩ | ⟨-, -, -, -, rfl⟩ | ⟨-, -, -, -, rfl⟩ | ⟨-, -, rfl, -⟩
  · exact List.suffix_rfl
  · exact List.suffix_rfl
  · exact List.suffix_rfl
  · exact List.suffix_rfl
  · exact List.suffix_rfl
  · cases o <;> exact List.suffix_rfl
  · exact List.suffix_rfl
  · exact List.suffix_rfl
  · exact List.tail_suffix _
  · exact List.tail_suffix _
  · exact List.tail_suffix _
  · exact List.suffix_rfl

theorem CoreMove.readDraws_suffix (hm : CoreMove s t) : t.env.readDraws <:+ s.env.readDraws := by
  obtain ⟨f, hone, e | ⟨-, -, -, -, e⟩⟩ := hm.transactionStep <;> rw [e] <;> exact hone.readDraws_suffix

/-- No agent adds a draw of `FileRead` (R63). -/
theorem step_readDraws_suffix (h : step s = .next t) : t.env.readDraws <:+ s.env.readDraws := by
  rcases step_cases s with ⟨hc, -⟩ | ⟨hc, -⟩ | ⟨-, e⟩ | ⟨-, e⟩ | ⟨b, -, e⟩ | ⟨n, d, -, e⟩ | ⟨-, e⟩
  · exact (coreMove_of_coreTurn hc h).readDraws_suffix
  · exact (coreMove_of_coreTurn hc h).readDraws_suffix
  · obtain ⟨-, -, ⟨-, rfl⟩ | ⟨-, -, -, rfl⟩⟩ := execHostStart_next.mp (e ▸ h) <;> exact List.suffix_rfl
  · rw [e] at h; cases h; exact List.suffix_rfl
  · rw [e] at h; cases h; exact List.suffix_rfl
  · rw [e] at h; cases hostUses_next h; exact List.suffix_rfl
  · rw [e] at h; cases hostUses_next h; exact List.suffix_rfl

/-- A chunk is next to be loaded because it was before, or because the step read it (R206). -/
theorem step_dataSend {chunk : List Byte} (h : step s = .next t) (ht : t.todo = .dataSend chunk) :
    s.todo = .dataSend chunk ∨ s.readAnswer = .chunk chunk := by
  rcases step_next h with hm | ⟨-, -, -, rfl⟩ | ⟨-, rfl⟩ | ⟨e, -, rfl⟩
  · rcases hm.todo_move with e | hmove
    · exact .inl (e ▸ ht)
    · have hread : s.hs = .idle ∧ s.phase = .dataLoop ∧ s.todo = .none ∧ chunk ≠ [] ∧ s.readAnswer = .chunk chunk := by
        simpa [TodoMove, ht] using hmove
      obtain ⟨-, -, -, -, ha⟩ := hread
      exact .inr ha
  · cases ht
  · cases ht
  · exact .inl ht

end Sys2Proof.Machine

/-! ### The obligations -/

namespace Sys2Proof

open Machine

/-- Settles O47: a step answers a next state, or a refusal that has its cause; a fault is neither. -/
theorem noFaultFromInvariant : Obligations.NoFaultFromInvariant := by
  intro s h
  rcases step_answers h with ⟨t, e⟩ | ⟨r, e, hcause⟩ <;> rw [e]
  · exact ⟨nofun, nofun⟩
  · refine ⟨nofun, fun q hq => ?_⟩
    cases hq
    exact hcause

/-- Settles O52: the step is `raise Abort`, and before it no register but `KIND` was written and no byte was moved. -/
theorem abortEntry : Obligations.AbortEntry := by
  intro s t hstep hs hp
  obtain ⟨st, u, hu, cause, rfl⟩ := step_aborted hstep hs hp
  obtain ⟨k, e, rfl, hkind, hsame⟩ := hu.kept
  have hend := hsame.trans (closeFile_sameBytes { s.moved with kind := k, env := e })
  obtain ⟨hnone, hsuccess⟩ := cause.status_ne
  rw [raiseAbort_eq]
  exact ⟨rfl, rfl, rfl, fun hopen => closeFile_isOpen hopen, hnone, hsuccess, hend.wire, rfl, rfl, rfl, rfl, rfl, rfl,
    rfl, rfl, rfl, hkind, rfl, rfl, hend.rxQueue, hend.rxTaken, hend.cursor, hend.data⟩

/-- Settles O54: at each of the five points a step answers the same state, and so for ever. -/
theorem hangsForever : Obligations.HangsForever := by
  intro n s hsched hpoint
  rcases hpoint with ⟨hs, ha⟩ | ⟨hs, ha⟩ | ⟨hs, ha, hlt, b, hb⟩ | ⟨hs, ha⟩ | ⟨hs, ha⟩
  · exact ⟨stepsFrom_fixed (step_waits_read (.inl hs) hsched ha) n, hs.1⟩
  · exact ⟨stepsFrom_fixed (step_waits_read (.inr hs) hsched ha) n, hs.1⟩
  · exact ⟨stepsFrom_fixed (step_waits_write hs hsched ha hlt hb) n, hs.1⟩
  · exact ⟨stepsFrom_fixed (step_waits_size hs hsched ha) n, (busyAt_of_at hs.1 rfl).1⟩
  · exact ⟨stepsFrom_fixed (step_waits_file hs hsched ha) n, (busyAt_of_at hs.1 rfl).1⟩

/-- Settles O55: an abort of the step has another cause; no draw of the file source is added, and a chunk that waits to
be loaded keeps the bound of the read that gave it. -/
theorem framingErrorUnreachable : Obligations.FramingErrorUnreachable := by
  intro s t h hw hfile hstep
  refine ⟨fun hst => ?_, hfile.of_suffix (step_readDraws_suffix hstep) fun _ => step_dataSend hstep⟩
  rcases step_next hstep with hm | ⟨-, -, -, rfl⟩ | ⟨-, rfl⟩ | ⟨e, -, rfl⟩
  · rcases hm.status_eq with e | e | cause
    · exact e ▸ hst
    · rw [e] at hst; cases hst
    · exact absurd hst ((h.env _).abort_not_framingError hw ⟨hfile.draws, hfile.chunk⟩ cause)
  · cases hst
  · cases hst
  · exact hst

end Sys2Proof
end

section
/-!
SUPPORT. The statements of spec/70_reset_and_hazards.md: what the registers hold at reset (R270), what the outputs say
at every state (R22, R40 to R42), and that a reset abandons the session and touches only the core (R271).
-/

namespace Sys2Proof.Machine

variable {s : State}

/-! ### The registers at reset -/

@[simp] theorem resetWith_phase (p : Params) (e : Env) : (State.resetWith p e).phase = .start := rfl
@[simp] theorem resetWith_hs (p : Params) (e : Env) : (State.resetWith p e).hs = .idle := rfl
@[simp] theorem resetWith_txidx (p : Params) (e : Env) : (State.resetWith p e).txidx = 0#11 := rfl
@[simp] theorem resetWith_seq (p : Params) (e : Env) : (State.resetWith p e).seq = 0#8 := rfl
@[simp] theorem resetWith_bsel (p : Params) (e : Env) : (State.resetWith p e).bsel = false := rfl
@[simp] theorem resetWith_kind (p : Params) (e : Env) : (State.resetWith p e).kind = .hdr := rfl
@[simp] theorem resetWith_retry (p : Params) (e : Env) : (State.resetWith p e).retry = 0 := rfl
@[simp] theorem resetWith_status (p : Params) (e : Env) : (State.resetWith p e).status = .none := rfl
@[simp] theorem resetWith_lastRespValid (p : Params) (e : Env) : (State.resetWith p e).lastRespValid = false := rfl
@[simp] theorem resetWith_fclosed (p : Params) (e : Env) : (State.resetWith p e).fclosed = false := rfl
@[simp] theorem resetWith_params (p : Params) (e : Env) : (State.resetWith p e).params = p := rfl
@[simp] theorem resetWith_env (p : Params) (e : Env) : (State.resetWith p e).env = e := rfl
@[simp] theorem resetWith_busy (p : Params) (e : Env) : (State.resetWith p e).busy = false := rfl
@[simp] theorem resetWith_done (p : Params) (e : Env) : (State.resetWith p e).done = false := rfl

/-- No byte of `PBUF` holds a value (log entry 2). -/
@[simp] theorem memByte_resetWith (p : Params) (e : Env) (a : Nat) :
    memByte (State.resetWith p e).pbuf a = none := rfl

/-! ### The outputs -/

theorem busy_iff :
    s.busy = true ↔ s.phase = .headerSent ∨ s.phase = .dataLoop ∨ s.phase = .eotSent ∨ s.phase = .finSent := by
  unfold State.busy
  cases s.phase <;> simp [Phase.isBusy]

theorem done_iff : s.done = true ↔ s.phase = .closed ∨ s.phase = .aborted := by
  unfold State.done
  cases s.phase <;> simp [Phase.isTerminal]

/-- The host reads `STATUS` as its code (R22, R40). -/
theorem outputs_status_of_status {st : Status} (h : s.status = st) : (outputs s).status = st.code :=
  congrArg Status.code h

/-! ### A reset move -/

/-- A reset is made in its turn, whatever the registers hold, and keeps the parameters and the environment (R270,
R271). -/
theorem step_reset (h : s.env.sched.head? = some .reset) :
    step s = .next (State.resetWith s.params s.env.moveMade) := by
  obtain ⟨rest, hsched⟩ : ∃ rest, s.env.sched = .reset :: rest := List.head?_eq_some_iff.mp h
  have hstep : step s = .next (resetCore s.moved) := by simp only [step, fetch, hsched]
  exact hstep

end Sys2Proof.Machine

/-! ### The obligations -/

namespace Sys2Proof

open Machine

/-- Settles O1: the registers at reset; the outputs at any state, `STATUS` by its code. -/
theorem resetLeaves : Obligations.ResetLeaves := by
  refine ⟨?atReset, fun s => ⟨busy_iff, done_iff, ?codes⟩⟩
  case atReset =>
    have hstatus : (outputs State.reset).status = 0#3 := outputs_status_of_status (st := .none) rfl
    rw [hstatus]
    simp [State.reset]
  case codes =>
    exact ⟨outputs_status_of_status, outputs_status_of_status, outputs_status_of_status, outputs_status_of_status,
      outputs_status_of_status, outputs_status_of_status, outputs_status_of_status, rfl, rfl⟩

/-- Settles O2: the step leads to the registers at reset, with the parameters and the environment there were. -/
theorem resetAbandonsSession : Obligations.ResetAbandonsSession :=
  fun _ h => ⟨_, step_reset h, by simp⟩

/-- Settles O46: at reset no session runs, and every bounded register holds 0. -/
theorem coreInvariantAtReset : Obligations.CoreInvariantAtReset := coreInv_resetWith

end Sys2Proof
end
